-- ==== Sys2Proof/Word.lean ====
section
/-! DEFINITION. The plain word types of the block (spec 00_scope.md R13): a command word is 4 bits wide (R80), a frame byte 8 bits
(R64), a line level one bit. -/

namespace Sys2Proof

/-- One byte of the frame, or one stored byte of a command list. -/
abbrev Byte := BitVec 8

/-- A host command word, `cmd_op[3:0]` (R80). -/
abbrev CommandWord := BitVec 4

/-- A level of the line, or a one-bit port: `true` is 1 (high), `false` is 0 (low) (R34). -/
abbrev Level := Bool

end Sys2Proof
end

