-- ==== Sys2Proof/Syntax.lean ====
section
/-! DEFINITION. The instruction set: the host commands of spec 30_encoding.md R81, one constructor per row of
spec/opcode_table.json. No command has an operand, an immediate or a mode bit (R80). -/

namespace Sys2Proof

/-- The host commands (R81). -/
inductive Instr where
  /-- `NOP`, opcode 0x0 (R174). -/
  | nop
  /-- `READ`, opcode 0x1 (R171). -/
  | read
  /-- `GETRES`, opcode 0x2 (R175). -/
  | getres
  /-- `GETHUM`, opcode 0x3 (R176). -/
  | gethum
  /-- `GETTEMP`, opcode 0x4 (R177). -/
  | gettemp
  /-- `GETFRAME`, opcode 0x5 (R178). -/
  | getframe
  /-- `GETTIME`, opcode 0x6 (R179). -/
  | gettime
  /-- `GETSTAT`, opcode 0x7 (R180). -/
  | getstat
  /-- A reserved word 0x8 to 0xF (R83, R181). `x` is bits 2:0, which the block ignores; the constructor keeps them so that a word
  can be written back (log 10). -/
  | reserved (x : BitVec 3)
  deriving DecidableEq, Repr

end Sys2Proof
end

