-- ==== Sys2Proof/Config.lean ====
section
/-! DEFINITION. What an implementation of the block fixes (spec 00_scope.md R11, R12) and the uninterpreted constants the spec
leaves open: the parameters, the input samples that nobody has listed (R7), the tick tolerance (R8) and the number format and the
dew-point functions of the host side (R193 to R195). -/

namespace Sys2Proof

/-- The two sensor variants, the strap `VARIANT` (R1, R11, R34). -/
inductive Variant where
  /-- The 11-variant, strap value 0. -/
  | v11
  /-- The 22-variant, strap value 1. -/
  | v22
  deriving DecidableEq, Repr, Inhabited

/-- The configuration of R11. It is fixed before reset is released and never changes (R12); every duration is a number of ticks. -/
structure Params where
  /-- `VARIANT` (D25). -/
  variant : Variant
  /-- `T_SETTLE` (D8). -/
  tSettle : Nat
  /-- `T_START_LOW(V11)` (D9). -/
  tStartLowV11 : Nat
  /-- `T_START_LOW(V22)` (D9). -/
  tStartLowV22 : Nat
  /-- `MIN_PERIOD` (D10). -/
  minPeriod : Nat
  deriving DecidableEq, Repr

/-- The defaults of R11's table. `VARIANT` and `T_SETTLE` have none and are supplied. -/
def Params.defaults (v : Variant) (settle : Nat) : Params where
  variant := v
  tSettle := settle
  tStartLowV11 := 18000
  tStartLowV22 := 2000
  minPeriod := 3000000

/-- Every duration parameter is below 2^32 ticks (R11). -/
abbrev Config.tickLimit : Nat := 2 ^ 32

/-- A number of ticks from `low` up to, not including, 2^32, chosen by `raw`; every such number is the value for some `raw`. -/
def Config.ticksFrom (low raw : Nat) : Nat := low + raw % (Config.tickLimit - low)

/-- The strap of this machine, not fixed by the spec (R11: "must be supplied"). DESIGN CHOICE, log 3: safe, no value is chosen. -/
opaque Config.variant : Variant

/-- Chooses `T_SETTLE` (D8: `OPEN`). DESIGN CHOICE, log 3: safe. -/
opaque Config.rawSettle : Nat

/-- Chooses `T_START_LOW(V11)` (D9: a lower bound only). DESIGN CHOICE, log 3: safe. -/
opaque Config.rawStartLowV11 : Nat

/-- Chooses `T_START_LOW(V22)` (D9: a lower bound only). DESIGN CHOICE, log 3: safe. -/
opaque Config.rawStartLowV22 : Nat

/-- Chooses `MIN_PERIOD` (D10: a lower bound only). DESIGN CHOICE, log 3: safe. -/
opaque Config.rawMinPeriod : Nat

/-- The parameters this machine is built with: any values that satisfy the constraints of R11, D9 and D10. -/
def Config.params : Params where
  variant := Config.variant
  tSettle := Config.ticksFrom 1 Config.rawSettle
  tStartLowV11 := Config.ticksFrom 18000 Config.rawStartLowV11
  tStartLowV22 := Config.ticksFrom 1000 Config.rawStartLowV22
  minPeriod := Config.ticksFrom 2000000 Config.rawMinPeriod

/-- `rst` in a tick for which no sample is listed: any value (R7, R230). DESIGN CHOICE, log 1: safe. -/
opaque Config.freeRst : Nat → Bool

/-- `pin_i` in a tick for which no sample is listed: any value (R7, U7). DESIGN CHOICE, log 1: safe. -/
opaque Config.freePin : Nat → Level

/-- `cmd_valid` in a tick for which no sample is listed: any value (R7). DESIGN CHOICE, log 1: safe. -/
opaque Config.freeCmdValid : Nat → Bool

/-- `cmd_op` in a tick for which no sample is listed: any value (R7). DESIGN CHOICE, log 1: safe. -/
opaque Config.freeCmdOp : Nat → CommandWord

/-- `TICK_TOL`, in nanoseconds by which a tick may differ from one microsecond (D1: `OPEN`). No step reads it; see Safety.lean.
DESIGN CHOICE, log 11: safe. -/
opaque Config.tickTol : Nat

/-- `FLOAT_FMT`: which number format the host library's `float` is (R195: `OPEN`). DESIGN CHOICE, log 12: safe. -/
opaque Config.floatFmt : Nat

/-- `DewPoint(c, h)` as the bits of a number in the given format: uninterpreted (R193, R195, U5, U6). DESIGN CHOICE, log 12: safe. -/
opaque Config.dewPoint (fmt : Nat) (celsius humidity : Rat) : Nat

/-- `DewPointFast(c, h)` as the bits of a number in the given format: uninterpreted (R194, R195, U5, U6). DESIGN CHOICE, log 12:
safe. -/
opaque Config.dewPointFast (fmt : Nat) (celsius humidity : Rat) : Nat

end Sys2Proof
end

