-- ==== Sys2Proof/WellFormed.lean ====
section
/-! DEFINITION. What is checked once: that a configuration satisfies the constraints of spec 00_scope.md R11 (with the floors of
D9 and D10), and that an instruction is one a command word can carry. -/

namespace Sys2Proof

/-- A duration of at least `low` ticks and below 2^32 (R11). -/
def Config.legalTicks (low d : Nat) : Bool := decide (low ≤ d) && decide (d < Config.tickLimit)

/-- The constraints of R11 on the parameters: `T_SETTLE` at least 1 (D8), `T_START_LOW` at least 18000 and 1000 (D9),
`MIN_PERIOD` at least 2000000 (D10), every duration below 2^32. -/
def Params.wellFormed (p : Params) : Bool :=
  Config.legalTicks 1 p.tSettle && Config.legalTicks 18000 p.tStartLowV11 && Config.legalTicks 1000 p.tStartLowV22
    && Config.legalTicks 2000000 p.minPeriod

/-- Every instruction is well formed: no command has an operand (R80), and the three ignored bits of a reserved word take every
value (R83). -/
def Instr.wellFormed : Instr → Bool
  | .nop => true
  | .read => true
  | .getres => true
  | .gethum => true
  | .gettemp => true
  | .getframe => true
  | .gettime => true
  | .getstat => true
  | .reserved _ => true

end Sys2Proof
end

