-- ==== Sys2Proof/Decode.lean ====
section
/-! DEFINITION. Decoding and encoding of command words (spec 30_encoding.md R80, R81, R83). On the port a word is 4 bits and every
word decodes. In a list of bytes a word stands in the low half of a byte whose high half is 0; anything else is rejected by name. -/

namespace Sys2Proof

/-- R81: "a word `w` selects the row when `w & mask = match`". -/
def selects (w mask pattern : CommandWord) : Bool := w &&& mask == pattern

/-- The opcode map of R81, row by row; total, since bit 3 set selects the reserved row (R83) and the eight words without it are
the eight commands. -/
def decodeWord (w : CommandWord) : Instr :=
  if selects w 0x8#4 0x8#4 then .reserved (w.extractLsb' 0 3)
  else if selects w 0xF#4 0x0#4 then .nop
  else if selects w 0xF#4 0x1#4 then .read
  else if selects w 0xF#4 0x2#4 then .getres
  else if selects w 0xF#4 0x3#4 then .gethum
  else if selects w 0xF#4 0x4#4 then .gettemp
  else if selects w 0xF#4 0x5#4 then .getframe
  else if selects w 0xF#4 0x6#4 then .gettime
  else .getstat

/-- Why a list of bytes holds no command word. -/
inductive DecodeError where
  /-- The list is empty. -/
  | noByte
  /-- A bit above bit 3 of the byte is set: `cmd_op` has four bits (R80). -/
  | notFourBits
  deriving DecidableEq, Repr

/-- The command whose word is the first byte of a list, and the rest of the list. One command is one word long (R80, R94). -/
def decodeBytes : List Byte → Except DecodeError (Instr × List Byte)
  | [] => .error .noByte
  | b :: rest =>
    if b.extractLsb' 4 4 == 0#4 then .ok (decodeWord (b.extractLsb' 0 4), rest) else .error .notFourBits

/-- The word of a command (R81); a reserved word has bit 3 set and its own low bits (R83). -/
def encode : Instr → CommandWord
  | .nop => 0x0#4
  | .read => 0x1#4
  | .getres => 0x2#4
  | .gethum => 0x3#4
  | .gettemp => 0x4#4
  | .getframe => 0x5#4
  | .gettime => 0x6#4
  | .getstat => 0x7#4
  | .reserved x => 1#1 ++ x

/-- A command word as one stored byte, its high half 0. -/
def encodeBytes (i : Instr) : List Byte := [(encode i).setWidth 8]

/-- A numbered instruction of spec/opcode_table.json as stored bytes, the byte with bits 7..0 first; at least one byte. -/
def tableBytes (nbits w : Nat) : List Byte :=
  (List.range (max 1 ((nbits + 7) / 8))).map (fun k => BitVec.ofNat 8 (w % 2 ^ nbits / 2 ^ (8 * k)))

/-- The instruction the decoder reads from the bits `w` of a row of spec/opcode_table.json. -/
def decodeTableWord (nbits w : Nat) : Option Instr :=
  match decodeBytes (tableBytes nbits w) with
  | .ok (i, _) => some i
  | .error _ => none

end Sys2Proof
end

