-- ==== Sys2Proof/Machine/State.lean ====
section
/-! DEFINITION. The state of the block as plain data: the eleven elements of spec 10_state.md R20, and the model's own fields for
the configuration, the outputs of the tick just taken and the coming port samples (INVENTORY.md, "State"). -/

namespace Sys2Proof.Machine

/-- The eleven values of `PHASE` in the order of R22 and R87. Codes 11 to 15 are not values (U3, log 5). -/
inductive Phase where
  /-- `IDLE` (R133). -/
  | idle
  /-- `START_SETTLE` (R122). -/
  | startSettle
  /-- `START_LOW` (R123). -/
  | startLow
  /-- `START_RELEASE` (R124). -/
  | startRelease
  /-- `WAIT_RESP` (R125). -/
  | waitResp
  /-- `WAIT_ACK_LOW` (R126). -/
  | waitAckLow
  /-- `WAIT_ACK_HIGH` (R127). -/
  | waitAckHigh
  /-- `BIT_WAIT_LOW` (R128). -/
  | bitWaitLow
  /-- `BIT_SETTLE` (R129). -/
  | bitSettle
  /-- `BIT_WAIT_HIGH` (R130). -/
  | bitWaitHigh
  /-- `CHECK` (R132). -/
  | check
  deriving DecidableEq, Repr

/-- The eight result codes of R85. The last two are reserved and never produced (R86, R203). -/
inductive ResultCode where
  /-- `SUCCESS`. -/
  | success
  /-- `ERROR_NOT_DETECTED`. -/
  | notDetected
  /-- `ERROR_SYNC_TIMEOUT`. -/
  | syncTimeout
  /-- `ERROR_TOO_FAST_READS`. -/
  | tooFastReads
  /-- `ERROR_DATA_TIMEOUT`. -/
  | dataTimeout
  /-- `ERROR_BAD_CHECKSUM`. -/
  | badChecksum
  /-- `ERROR_BUS_BUSY`, reserved. -/
  | busBusy
  /-- `ERROR_ACK_TOO_LONG`, reserved. -/
  | ackTooLong
  deriving DecidableEq, Repr

/-- The four values of `cmd_ack` (R82). -/
inductive Ack where
  /-- `ACK_NONE`. -/
  | none
  /-- `ACK_ACCEPTED`. -/
  | accepted
  /-- `ACK_REFUSED_BUSY`. -/
  | refusedBusy
  /-- `ACK_ILLEGAL`. -/
  | illegal
  deriving DecidableEq, Repr

/-- The input ports of one tick (R34), less the strap `VARIANT`, which is configuration (D25). -/
structure Inputs where
  /-- `rst`. -/
  rst : Bool
  /-- `pin_i`. -/
  pinI : Level
  /-- `cmd_valid`. -/
  cmdValid : Bool
  /-- `cmd_op`, ignored when `cmd_valid` is 0. -/
  cmdOp : CommandWord
  deriving DecidableEq, Repr

/-- The output ports of one tick (R33, R35). -/
structure Outputs where
  /-- `pin_oe`. -/
  pinOe : Bool
  /-- `pin_o`. -/
  pinO : Level
  /-- `pin_pu`. -/
  pinPu : Bool
  /-- `cmd_ack`. -/
  cmdAck : BitVec 2
  /-- `rsp_valid`. -/
  rspValid : Bool
  /-- `rsp_data`, 0 when `rsp_valid` is 0. -/
  rspData : BitVec 64
  /-- `done_valid`. -/
  doneValid : Bool
  /-- `done_code`, 0 when `done_valid` is 0. -/
  doneCode : BitVec 3
  /-- `busy`. -/
  busy : Bool
  deriving DecidableEq, Repr

/-- The state of the machine. The first eleven fields are R20's table. -/
structure State where
  /-- `PHASE` (R22). -/
  phase : Phase
  /-- `TMR` (R23). -/
  tmr : BitVec 32
  /-- `BITIDX` (R24). -/
  bitIdx : Fin 40
  /-- `BITS` (R25): cell `i` is the sample of the bit with index `i`. -/
  bits : Vector Bool 40
  /-- `LAST_RESULT` (R26). -/
  lastResult : ResultCode
  /-- `LAST_FRAME` (R27): byte 0 in bits 39:32. -/
  lastFrame : BitVec 40
  /-- `HUM_X10` (R28), unsigned. -/
  humX10 : BitVec 16
  /-- `TEMP_X10` (R29), two's complement. -/
  tempX10 : BitVec 16
  /-- `LAST_OK_TIME` (R30). -/
  lastOkTime : BitVec 64
  /-- `LAST_OK_VALID` (R31). -/
  lastOkValid : Bool
  /-- `NOW` (R32). -/
  now : BitVec 64
  /-- The model's own: the configuration, which no step changes (R12, log 3). -/
  cfg : Params
  /-- The model's own: the outputs of the tick just taken (log 4). -/
  out : Outputs
  /-- The model's own: the port samples of the coming ticks, the nearest first (log 1). -/
  inputs : List Inputs
  /-- The model's own: which free port sample is next once `inputs` is used up (log 1). -/
  freeIndex : Nat
  deriving DecidableEq, Repr

/-- The faults of a step: none. The block has no trap and no rule that stops it (60_exceptions.md, its opening; R200), so nothing
raises a fault; a failed transaction is a next state (R204). Safe. -/
inductive Fault where
  deriving DecidableEq, Repr

/-- The refusals of a step. -/
inductive Refusal where
  /-- Raised by an arm of `exec` that has no meaning yet; no arm is left that raises it. Safe. -/
  | notModelled (mnemonic : String)
  deriving DecidableEq, Repr

/-- The registers and outputs after reset (R40), with the machine's configuration and no port sample listed. -/
def State.reset : State where
  phase := .idle
  tmr := 0#32
  bitIdx := 0
  bits := Vector.replicate 40 false
  lastResult := .success
  lastFrame := 0#40
  humX10 := 0#16
  tempX10 := 0#16
  lastOkTime := 0#64
  lastOkValid := false
  now := 0#64
  cfg := Config.params
  out := { pinOe := false, pinO := true, pinPu := true, cmdAck := 0#2, rspValid := false, rspData := 0#64,
           doneValid := false, doneCode := 0#3, busy := false }
  inputs := []
  freeIndex := 0

/-- What the sequencer does in one tick: the registers it leaves, and the `done` event it raises, if any (R14). -/
structure Action where
  state : State
  done : Option ResultCode
  deriving DecidableEq, Repr

/-- What a command does in one tick, computed from the state at the start of the step (R170): `ack`, `rsp`, `done` of a
rate-limited `READ`, and whether it starts a transaction. -/
structure CommandEffect where
  ack : Ack
  rsp : Option (BitVec 64)
  done : Option ResultCode
  starts : Bool
  deriving DecidableEq, Repr

end Sys2Proof.Machine
end

