-- ==== Sys2Proof/Machine/Operands.lean ====
section
/-! DEFINITION. Codes and register images: the phase codes (spec 30_encoding.md R87), the result codes (R85), the acknowledgment
codes (R82), the strap's value (10_state.md R34) and the response data of the GET commands (R84). Commands have no operands (R80). -/

namespace Sys2Proof.Machine

/-- The 4-bit code of a phase (R87). -/
def Phase.code : Phase → BitVec 4
  | .idle => 0#4
  | .startSettle => 1#4
  | .startLow => 2#4
  | .startRelease => 3#4
  | .waitResp => 4#4
  | .waitAckLow => 5#4
  | .waitAckHigh => 6#4
  | .bitWaitLow => 7#4
  | .bitSettle => 8#4
  | .bitWaitHigh => 9#4
  | .check => 10#4

/-- The 3-bit code of a result (R85). -/
def ResultCode.code : ResultCode → BitVec 3
  | .success => 0#3
  | .notDetected => 1#3
  | .syncTimeout => 2#3
  | .tooFastReads => 3#3
  | .dataTimeout => 4#3
  | .badChecksum => 5#3
  | .busBusy => 6#3
  | .ackTooLong => 7#3

/-- The 2-bit code of an acknowledgment (R82). -/
def Ack.code : Ack → BitVec 2
  | .none => 0#2
  | .accepted => 1#2
  | .refusedBusy => 2#2
  | .illegal => 3#2

/-- The strap's value (R34, R37). -/
def variantBit : Variant → BitVec 1
  | .v11 => 0#1
  | .v22 => 1#1

/-- `zext_64(LAST_RESULT)` (R84). -/
def resultImage (s : State) : BitVec 64 := s.lastResult.code.setWidth 64

/-- `zext_64(HUM_X10)` (R84). -/
def humidityImage (s : State) : BitVec 64 := s.humX10.setWidth 64

/-- `sext_64(TEMP_X10)` (R84). -/
def temperatureImage (s : State) : BitVec 64 := s.tempX10.signExtend 64

/-- `zext_64(LAST_FRAME)` (R84). -/
def frameImage (s : State) : BitVec 64 := s.lastFrame.setWidth 64

/-- `LAST_OK_TIME` (R84). -/
def timeImage (s : State) : BitVec 64 := s.lastOkTime

end Sys2Proof.Machine
end

