-- ==== Sys2Proof/Machine/Flags.lean ====
section
/-! DEFINITION. The status flags and the status image (spec 10_state.md R36, R37), and the rate-limit condition (43_host_commands.md
R172). There are no condition codes (R36). -/

namespace Sys2Proof.Machine

/-- `BUSY`: the predicate `PHASE != IDLE`, not stored (R36). -/
def State.busy (s : State) : Bool := s.phase != .idle

/-- The status image of `GETSTAT` (R37): `BUSY`, `VALID`, `VARIANT`, `PHASE` in 6:3, `BITIDX` in 12:7, the rest 0. -/
def statusImage (s : State) : BitVec 64 :=
  0#51 ++ (BitVec.ofNat 6 s.bitIdx.val ++ (s.phase.code
    ++ (variantBit s.cfg.variant ++ (BitVec.ofBool s.lastOkValid ++ BitVec.ofBool s.busy))))

/-- `(NOW - LAST_OK_TIME) mod 2^64` (R153 c). -/
abbrev State.elapsed (s : State) : BitVec 64 := s.now - s.lastOkTime

/-- The rate-limit condition of R172: there has been a success, and less than `MIN_PERIOD` ticks have passed since it. -/
def State.rateLimited (s : State) : Bool := s.lastOkValid && decide (s.elapsed.toNat < s.cfg.minPeriod)

end Sys2Proof.Machine
end

