-- ==== Sys2Proof/Machine/Timing.lean ====
section
/-! DEFINITION. The protocol constants of spec 00_scope.md R10 and the durations that the configuration selects (R11, R12). All
are numbers of ticks. -/

namespace Sys2Proof.Machine

/-- `T_RELEASE` (R10). -/
def tRelease : Nat := 30

/-- `M_RESP` (R10). -/
def mResp : Nat := 40

/-- `M_ACK_LOW` (R10). -/
def mAckLow : Nat := 100

/-- `M_ACK_HIGH` (R10). -/
def mAckHigh : Nat := 100

/-- `M_BIT_LOW` (R10). -/
def mBitLow : Nat := 75

/-- `T_BIT_SETTLE` (R10). -/
def tBitSettle : Nat := 40

/-- `M_BIT_HIGH` (R10). -/
def mBitHigh : Nat := 50

/-- `T_START_LOW(VARIANT)` (R11, R123). -/
def startLowTicks (p : Params) : Nat :=
  match p.variant with
  | .v11 => p.tStartLowV11
  | .v22 => p.tStartLowV22

end Sys2Proof.Machine
end

