-- ==== Sys2Proof/Machine/Ops.lean ====
section
/-! DEFINITION. The shared operations: reading the input ports, the named writes of registers, the start and the end of a transaction
(the failure entry `raise E`, spec 60_exceptions.md R204), the two primitives `AwaitLevel` and `Delay` (40_await_level.md R111, R118),
and the output ports of a tick (10_state.md R33, R35). -/

namespace Sys2Proof.Machine

/-- The port samples of the tick to be taken: the nearest listed ones, else free ones (R7, R34; log 1). -/
def State.ports (s : State) : Inputs :=
  match s.inputs with
  | i :: _ => i
  | [] =>
    { rst := Config.freeRst s.freeIndex, pinI := Config.freePin s.freeIndex,
      cmdValid := Config.freeCmdValid s.freeIndex, cmdOp := Config.freeCmdOp s.freeIndex }

/-- `PinSample()`: the line level at this tick (R14). -/
def State.pinSample (s : State) : Level := s.ports.pinI

/-- The port samples of one tick are used up (log 1). -/
def State.nextPorts (s : State) : State :=
  match s.inputs with
  | _ :: rest => { s with inputs := rest }
  | [] => { s with freeIndex := s.freeIndex + 1 }

/-- `PHASE <- p`. -/
def State.setPhase (s : State) (p : Phase) : State := { s with phase := p }

/-- `TMR <- v`. -/
def State.setTmr (s : State) (v : BitVec 32) : State := { s with tmr := v }

/-- `BITIDX <- i`. -/
def State.setBitIdx (s : State) (i : Fin 40) : State := { s with bitIdx := i }

/-- `BITS[BITIDX] <- b` (R129). -/
def State.writeBit (s : State) (b : Bool) : State := { s with bits := s.bits.set s.bitIdx.val b s.bitIdx.isLt }

/-- `LAST_RESULT <- r`. -/
def State.setLastResult (s : State) (r : ResultCode) : State := { s with lastResult := r }

/-- The cache: `LAST_FRAME`, `HUM_X10`, `TEMP_X10` and `LAST_OK_TIME` written, `LAST_OK_VALID <- 1` (R158). -/
def State.setCache (s : State) (frame : BitVec 40) (hum temp : BitVec 16) (time : BitVec 64) : State :=
  { s with lastFrame := frame, humX10 := hum, tempX10 := temp, lastOkTime := time, lastOkValid := true }

/-- `NOW <- (NOW + 1) mod 2^64` (R32). -/
def State.countNow (s : State) : State := { s with now := s.now + 1#64 }

/-- The outputs of the tick being taken. -/
def State.setOut (s : State) (o : Outputs) : State := { s with out := o }

/-- `PHASE <- IDLE ; TMR <- 0 ; BITIDX <- 0 ; BITS[i] <- 0 for every i`, the end of every transaction (R158, R204). -/
def State.clearWorking (s : State) : State :=
  { s with phase := .idle, tmr := 0#32, bitIdx := 0, bits := Vector.replicate 40 false }

/-- The start of a transaction (R121). -/
def State.startTransaction (s : State) : State := s.clearWorking.setPhase .startSettle

/-- `raise E`, the failure entry (R204): the result code is written, the working registers are cleared, `PHASE` goes to `IDLE`,
`done(E)`; nothing else is written. There is no return operation (R208). -/
def raise (e : ResultCode) (s : State) : Action := { state := (s.setLastResult e).clearWorking, done := some e }

/-- A step of the sequencer without a `done` event. -/
def continueWith (s : State) : Action := { state := s, done := none }

/-- One tick of `AwaitLevel(L, M)` with failure code `e` and continuation `next` (R111); `level` is the level to exit (R110). -/
def awaitLevel (level : Level) (budget : Nat) (e : ResultCode) (next : State → State) (s : State) : Action :=
  if s.pinSample != level then continueWith (next (s.setTmr 0#32))
  else if s.tmr.toNat = budget then raise e s
  else continueWith (s.setTmr (s.tmr + 1#32))

/-- One tick of `Delay(D)` with next phase `next` (R118). The comparison is over unsigned integers (R13; log 7). -/
def delay (duration : Nat) (next : Phase) (s : State) : Action :=
  if s.tmr.toNat + 1 ≥ duration then continueWith ((s.setTmr 0#32).setPhase next)
  else continueWith (s.setTmr (s.tmr + 1#32))

/-- `pin_oe` by phase (R33). -/
def Phase.drivesLine : Phase → Bool
  | .startSettle => true
  | .startLow => true
  | .startRelease => true
  | _ => false

/-- `pin_o` by phase (R33). -/
def Phase.drivenLevel : Phase → Level
  | .startLow => false
  | _ => true

/-- The outputs of a tick: pin outputs and `busy` from the state at its start (R33, R36), acknowledgment and response from the
command, `done` from the sequencer or from a rate-limited `READ` (R35, R182). -/
def outputsOf (s : State) (e : CommandEffect) (done : Option ResultCode) : Outputs where
  pinOe := s.phase.drivesLine
  pinO := s.phase.drivenLevel
  pinPu := true
  cmdAck := e.ack.code
  rspValid := e.rsp.isSome
  rspData := e.rsp.getD 0#64
  doneValid := done.isSome
  doneCode := (done.map ResultCode.code).getD 0#3
  busy := s.busy

/-- No command in this tick (R170). -/
def noCommand : CommandEffect where
  ack := .none
  rsp := none
  done := none
  starts := false

/-- `ack(ACK_ACCEPTED); rsp(v)` (R175 to R180). -/
def respond (v : BitVec 64) : CommandEffect where
  ack := .accepted
  rsp := some v
  done := none
  starts := false

/-- An acknowledgment and nothing else (R173, R174, R181). -/
def acknowledge (a : Ack) : CommandEffect where
  ack := a
  rsp := none
  done := none
  starts := false

/-- A tick with `rst` = 1 (R230): the registers of R40, whatever the state was; the command outputs are idle. The pin outputs and
`busy` of the tick are still those of the old phase (R33, R36; log 18); the strap and the coming samples stay. -/
def resetTick (s : State) : State :=
  { State.reset with
    cfg := s.cfg
    out := outputsOf s noCommand none
    inputs := s.nextPorts.inputs
    freeIndex := s.nextPorts.freeIndex }

end Sys2Proof.Machine
end

