-- ==== Sys2Proof/Machine/Frame.lean ====
section
/-! DEFINITION. Frame assembly, checksum, variant decode and commit (spec 42_frame_decode.md R150 to R160). -/

namespace Sys2Proof.Machine

/-- `byte[n]` of the accumulator, most significant bit first (R150, R62). -/
def packByte (bits : Vector Bool 40) (n : Fin 5) : Byte :=
  BitVec.ofNat 8 (bits[8 * n.val].toNat * 128 + bits[8 * n.val + 1].toNat * 64 + bits[8 * n.val + 2].toNat * 32
    + bits[8 * n.val + 3].toNat * 16 + bits[8 * n.val + 4].toNat * 8 + bits[8 * n.val + 5].toNat * 4
    + bits[8 * n.val + 6].toNat * 2 + bits[8 * n.val + 7].toNat)

/-- `Pack`: the 40-bit frame, byte 0 in bits 39:32 (R150, R88). -/
def pack (bits : Vector Bool 40) : BitVec 40 :=
  packByte bits 0 ++ (packByte bits 1 ++ (packByte bits 2 ++ (packByte bits 3 ++ packByte bits 4)))

/-- `byte[n]` of a frame, `F[39-8n : 32-8n]` (R150). -/
def frameByte (frame : BitVec 40) (n : Fin 5) : Byte := frame.extractLsb' (32 - 8 * n.val) 8

/-- `Sum`: the sum of bytes 0 to 3, mod 256 (R151). -/
def frameSum (frame : BitVec 40) : Byte :=
  frameByte frame 0 + frameByte frame 1 + frameByte frame 2 + frameByte frame 3

/-- `Verify`: the fifth byte is the sum (R152). -/
def frameValid (frame : BitVec 40) : Bool := frameByte frame 4 == frameSum frame

/-- Humidity in tenths of a percent, an exact number (R155, R156). -/
def humidityTenths (v : Variant) (frame : BitVec 40) : Nat :=
  match v with
  | .v11 => (frameByte frame 0).toNat * 10
  | .v22 => (frameByte frame 0).toNat * 256 + (frameByte frame 1).toNat

/-- The 15-bit magnitude of a `V22` temperature (R156). -/
def temperatureMagnitude (frame : BitVec 40) : Nat :=
  (frameByte frame 2 &&& 0x7F#8).toNat * 256 + (frameByte frame 3).toNat

/-- Temperature in tenths of a degree, an exact number (R155, R156). -/
def temperatureTenths (v : Variant) (frame : BitVec 40) : Int :=
  match v with
  | .v11 => (frameByte frame 2).toNat * 10
  | .v22 => if (frameByte frame 2).getLsbD 7 then -(temperatureMagnitude frame : Int) else temperatureMagnitude frame

/-- `Commit` of a valid frame (R158): the six session registers written and the working registers cleared in one step,
`LAST_OK_TIME <- NOW` with the value at the start of the step, `done(SUCCESS)`. -/
def commit (frame : BitVec 40) (s : State) : Action where
  state :=
    ((s.setCache frame (BitVec.ofNat 16 (humidityTenths s.cfg.variant frame))
      (BitVec.ofInt 16 (temperatureTenths s.cfg.variant frame)) s.now).setLastResult .success).clearWorking
  done := some .success

/-- The `CHECK` step, whole (R159). -/
def checkFrame (s : State) : Action :=
  if frameValid (pack s.bits) then commit (pack s.bits) s else raise .badChecksum s

end Sys2Proof.Machine
end

