-- ==== Sys2Proof/Machine/Sequencer.lean ====
section
/-! DEFINITION. The transaction sequencer, phase by phase (spec 41_transaction.md R121 to R134). -/

namespace Sys2Proof.Machine

/-- One tick of `BIT_SETTLE` (R129): the 40th tick samples the line into `BITS[BITIDX]`. -/
def settleAndSample (s : State) : Action :=
  if s.tmr.toNat = tBitSettle - 1 then continueWith (((s.writeBit s.pinSample).setTmr 0#32).setPhase .bitWaitHigh)
  else continueWith (s.setTmr (s.tmr + 1#32))

/-- The end of a bit's high pulse (R130): the next bit, or `CHECK` after bit 39. -/
def nextBit (s : State) : State :=
  if h : s.bitIdx.val + 1 < 40 then (s.setBitIdx ⟨s.bitIdx.val + 1, h⟩).setPhase .bitWaitLow
  else s.setPhase .check

/-- The sequencer's action in one tick, the table of R134. In `IDLE` it does nothing (R133). -/
def sequencer (s : State) : Action :=
  match s.phase with
  | .idle => continueWith s
  | .startSettle => delay s.cfg.tSettle .startLow s
  | .startLow => delay (startLowTicks s.cfg) .startRelease s
  | .startRelease => delay tRelease .waitResp s
  | .waitResp => awaitLevel true mResp .notDetected (·.setPhase .waitAckLow) s
  | .waitAckLow => awaitLevel false mAckLow .syncTimeout (·.setPhase .waitAckHigh) s
  | .waitAckHigh => awaitLevel true mAckHigh .tooFastReads (·.setPhase .bitWaitLow) s
  | .bitWaitLow => awaitLevel false mBitLow .dataTimeout (·.setPhase .bitSettle) s
  | .bitSettle => settleAndSample s
  | .bitWaitHigh => awaitLevel true mBitHigh .dataTimeout nextBit s
  | .check => checkFrame s

/-- The end of a tick: `NOW` counts (R32), the outputs stand (R35), the tick's port samples are used up. -/
def finishTick (s : State) (o : Outputs) : State := (s.countNow.setOut o).nextPorts

/-- One tick without reset (R9, R170): the sequencer and the command both act on the state `s` at the start of the step; a command
that starts a transaction does so in `IDLE`, where the sequencer writes nothing. -/
def tick (s : State) (e : CommandEffect) : State :=
  let a := sequencer s
  finishTick (if e.starts then a.state.startTransaction else a.state) (outputsOf s e (a.done <|> e.done))

end Sys2Proof.Machine
end

