-- ==== Sys2Proof/Machine/Commands.lean ====
section
/-! DEFINITION. The meanings of the host commands (spec 43_host_commands.md R170 to R181). Each is one tick in which the command is
presented and the sequencer acts too (R170). No meaning faults or refuses. -/

namespace Sys2Proof.Machine

/-- What a `READ` does, from the state at the start of its step (R171 to R173): refused when busy, answered from `LAST_RESULT`
when rate-limited, else a transaction starts. -/
def readEffect (s : State) : CommandEffect :=
  if s.busy then acknowledge .refusedBusy
  else if s.rateLimited then { ack := .accepted, rsp := none, done := some s.lastResult, starts := false }
  else { ack := .accepted, rsp := none, done := none, starts := true }

/-- `NOP` (R174). -/
def execNop (s : State) : Host.Outcome State Fault Refusal := .next (tick s (acknowledge .accepted))

/-- `READ` (R171). -/
def execRead (s : State) : Host.Outcome State Fault Refusal := .next (tick s (readEffect s))

/-- `GETRES` (R175). -/
def execGetres (s : State) : Host.Outcome State Fault Refusal := .next (tick s (respond (resultImage s)))

/-- `GETHUM` (R176). -/
def execGethum (s : State) : Host.Outcome State Fault Refusal := .next (tick s (respond (humidityImage s)))

/-- `GETTEMP` (R177). -/
def execGettemp (s : State) : Host.Outcome State Fault Refusal := .next (tick s (respond (temperatureImage s)))

/-- `GETFRAME` (R178). -/
def execGetframe (s : State) : Host.Outcome State Fault Refusal := .next (tick s (respond (frameImage s)))

/-- `GETTIME` (R179). -/
def execGettime (s : State) : Host.Outcome State Fault Refusal := .next (tick s (respond (timeImage s)))

/-- `GETSTAT` (R180). -/
def execGetstat (s : State) : Host.Outcome State Fault Refusal := .next (tick s (respond (statusImage s)))

/-- A reserved word (R181): all eight behave alike, whatever their low bits. -/
def execReserved (_x : BitVec 3) (s : State) : Host.Outcome State Fault Refusal := .next (tick s (acknowledge .illegal))

end Sys2Proof.Machine
end

