-- ==== Sys2Proof/Machine/Dispatch.lean ====
section
/-! DEFINITION. The dispatch: one arm per constructor of `Instr`, each one call of its meaning. -/

namespace Sys2Proof.Machine

/-- The meaning of an instruction in the tick in which it is presented with `rst` = 0. -/
def exec (i : Instr) (s : State) : Host.Outcome State Fault Refusal :=
  match i with
  | .nop => Sys2Proof.Machine.execNop s
  | .read => Sys2Proof.Machine.execRead s
  | .getres => Sys2Proof.Machine.execGetres s
  | .gethum => Sys2Proof.Machine.execGethum s
  | .gettemp => Sys2Proof.Machine.execGettemp s
  | .getframe => Sys2Proof.Machine.execGetframe s
  | .gettime => Sys2Proof.Machine.execGettime s
  | .getstat => Sys2Proof.Machine.execGetstat s
  | .reserved x => Sys2Proof.Machine.execReserved x s

end Sys2Proof.Machine
end

