-- ==== Sys2Proof/Machine/Step.lean ====
section
/-! DEFINITION. One step of the machine is one tick (spec 00_scope.md R9): reset first (70_reset_and_hazards.md R230), else the
command presented, if any (43_host_commands.md R170), with the sequencer's action in the same tick. -/

namespace Sys2Proof.Machine

/-- One tick, with the port samples that stand in the state. -/
def step (s : State) : Host.Outcome State Fault Refusal :=
  if s.ports.rst then .next (resetTick s)
  else if s.ports.cmdValid then exec (decodeWord s.ports.cmdOp) s
  else .next (tick s noCommand)

/-- The bits of a numbered instruction on the command port in the coming tick: `cmd_valid` = 1, `rst` = 0, the line sample as it
was; the samples after it stay. It stands for the host presenting the command (log 2). -/
def State.withFetchWord (s : State) (nbits w : Nat) : State :=
  { s with inputs :=
      { rst := false, pinI := s.ports.pinI, cmdValid := true, cmdOp := BitVec.ofNat 4 (w % 2 ^ nbits) } :: s.inputs.tail }

end Sys2Proof.Machine
end

