-- ==== Sys2Proof/Machine/HostSide.lean ====
section
/-! DEFINITION. The host-side functions over the block's responses (spec 44_derived_values.md R190 to R195; 30_encoding.md R95). They
are outside the block: no step calls them. The scales are exact rational numbers (R195); the dew points are uninterpreted
functions of the two operands (R195, log 12). -/

namespace Sys2Proof.Machine

/-- The scales of `Temperature(Scale)` (R190 to R192). -/
inductive Scale where
  /-- The canonical scale. -/
  | celsius
  | fahrenheit
  | kelvin
  deriving DecidableEq, Repr

/-- `Humidity()` in percent from the response of `GETHUM`: `rsp_data[15:0] / 10` (R95, R190). -/
def humidityPercent (rsp : BitVec 64) : Rat := ((rsp.extractLsb' 0 16).toNat : Rat) / 10

/-- `Temperature(Celsius)` from the response of `GETTEMP`: `rsp_data` as a signed number, divided by 10 (R95, R190). -/
def celsius (rsp : BitVec 64) : Rat := (rsp.toInt : Rat) / 10

/-- "Fahrenheit = Celsius × 9/5 + 32" (R191). -/
def toFahrenheit (c : Rat) : Rat := c * 9 / 5 + 32

/-- "Kelvin = Celsius + 273.15" (R192). -/
def toKelvin (c : Rat) : Rat := c + 27315 / 100

/-- `Temperature(Scale)` from the response of `GETTEMP` (R95, R190 to R192). -/
def temperatureIn (scale : Scale) (rsp : BitVec 64) : Rat :=
  match scale with
  | .celsius => celsius rsp
  | .fahrenheit => toFahrenheit (celsius rsp)
  | .kelvin => toKelvin (celsius rsp)

/-- `DewPoint(c, h)`: some number in the host's format (R193, R195). -/
def dewPoint (c h : Rat) : Nat := Config.dewPoint Config.floatFmt c h

/-- `DewPointFast(c, h)`: some number in the host's format (R194, R195). -/
def dewPointFast (c h : Rat) : Nat := Config.dewPointFast Config.floatFmt c h

end Sys2Proof.Machine
end

