-- ==== Sys2Proof/Safety.lean ====
section
/-! DEFINITION. The terms in which statements about the machine are written: runs of ticks and the samples they take, which registers
two states share, the invariants of spec 10_state.md R41, the waveform of a frame (95_test_vectors.md, opening), and the platform's
duties of 70_reset_and_hazards.md R233 and R238. -/

namespace Sys2Proof.Safety

open Sys2Proof.Machine

/-- `n` ticks of the machine. -/
def run (n : Nat) (s : State) : Host.Outcome State Fault Refusal := Host.Core.run Sys2Proof.core n s

/-- The port samples of the tick `k` ticks from now: listed, else free (R7, log 1). -/
def portsAt (s : State) : Nat → Inputs
  | 0 => s.ports
  | k + 1 => portsAt s.nextPorts k

/-- No `rst` in the next `n` ticks. -/
def NoReset (s : State) (n : Nat) : Prop := ∀ k, k < n → (portsAt s k).rst = false

/-- The state with these samples on the ports in the coming tick, the later ones as they were. -/
def withPorts (s : State) (p : Inputs) : State := { s with inputs := p :: s.inputs.tail }

/-- The same tick with the same line sample and no command, no reset. -/
def quiet (s : State) : State := withPorts s { rst := false, pinI := s.ports.pinI, cmdValid := false, cmdOp := 0#4 }

/-- The two states agree on `PHASE`, `TMR`, `BITIDX` and `BITS`. -/
def SameWorking (s t : State) : Prop := t.phase = s.phase ∧ t.tmr = s.tmr ∧ t.bitIdx = s.bitIdx ∧ t.bits = s.bits

/-- The two states agree on the cached reading: `LAST_FRAME`, `HUM_X10`, `TEMP_X10`, `LAST_OK_TIME`, `LAST_OK_VALID`. -/
def SameCache (s t : State) : Prop :=
  t.lastFrame = s.lastFrame ∧ t.humX10 = s.humX10 ∧ t.tempX10 = s.tempX10 ∧ t.lastOkTime = s.lastOkTime
    ∧ t.lastOkValid = s.lastOkValid

/-- The two states agree on the six session registers (R20). -/
def SameSession (s t : State) : Prop := t.lastResult = s.lastResult ∧ SameCache s t

/-- The two states agree on all eleven elements of R20. -/
def SameRegisters (s t : State) : Prop := SameWorking s t ∧ SameSession s t ∧ t.now = s.now

/-- One tick has gone by: `NOW` counted (R32), the configuration stands (R12), the later port samples are untouched
(log 1). -/
def TickPassed (s t : State) : Prop :=
  t.now = s.now + 1#64 ∧ t.cfg = s.cfg ∧ t.inputs = s.nextPorts.inputs ∧ t.freeIndex = s.nextPorts.freeIndex

/-- The sequencer is at rest with its working registers cleared (R158, R204). -/
def AtRest (s : State) : Prop :=
  s.phase = .idle ∧ s.tmr = 0 ∧ s.bitIdx = 0 ∧ s.bits = Vector.replicate 40 false

/-- No `done` in the tick that led here (R35). -/
def NoDone (t : State) : Prop := t.out.doneValid = false ∧ t.out.doneCode = 0

/-- `done(c)` in the tick that led here (R14). -/
def Done (t : State) (c : BitVec 3) : Prop := t.out.doneValid = true ∧ t.out.doneCode = c

/-- A tick without reset leads from `s` to `t`. -/
def Ticks (s t : State) : Prop := s.ports.rst = false ∧ step s = .next t

/-- The command of the tick from `s` to `t` adds nothing to what the sequencer does in that tick: registers, pin outputs, `busy`
and `done` are those of the same tick without a command, and in `IDLE` no register but `NOW` changes (R67, R170). -/
def OnlyAnswers (s t : State) : Prop :=
  TickPassed s t ∧
  (∃ u, step (quiet s) = .next u ∧ SameRegisters u t ∧ t.out.pinOe = u.out.pinOe ∧ t.out.pinO = u.out.pinO
    ∧ t.out.pinPu = u.out.pinPu ∧ t.out.busy = u.out.busy ∧ t.out.doneValid = u.out.doneValid
    ∧ t.out.doneCode = u.out.doneCode) ∧
  (s.phase = .idle → SameWorking s t ∧ SameSession s t ∧ NoDone t)

/-- A transaction has ended in failure `e` in the tick from `s` to `t` (R204): `LAST_RESULT` written, the sequencer at rest, the
cache as it was, `done(e)`. -/
def FailedWith (s t : State) (e : ResultCode) : Prop :=
  t.lastResult = e ∧ AtRest t ∧ SameCache s t ∧ Done t e.code

/-- The waiting rows of R134's table: phase, level to exit, budget, failure code (R125 to R128, R130). -/
def WaitRow (p : Phase) (level : Level) (budget : Nat) (e : ResultCode) : Prop :=
  (p = .waitResp ∧ level = true ∧ budget = 40 ∧ e = .notDetected) ∨
  (p = .waitAckLow ∧ level = false ∧ budget = 100 ∧ e = .syncTimeout) ∨
  (p = .waitAckHigh ∧ level = true ∧ budget = 100 ∧ e = .tooFastReads) ∨
  (p = .bitWaitLow ∧ level = false ∧ budget = 75 ∧ e = .dataTimeout) ∨
  (p = .bitWaitHigh ∧ level = true ∧ budget = 50 ∧ e = .dataTimeout)

/-- The timed rows of R134's table that do nothing but wait: phase, duration, next phase (R122 to R124). -/
def TimedRow (c : Params) (p : Phase) (duration : Nat) (next : Phase) : Prop :=
  (p = .startSettle ∧ duration = c.tSettle ∧ next = .startLow) ∨
  (p = .startLow ∧ duration = (match c.variant with | .v11 => c.tStartLowV11 | .v22 => c.tStartLowV22)
    ∧ next = .startRelease) ∨
  (p = .startRelease ∧ duration = 30 ∧ next = .waitResp)

/-- The phase that follows a waiting phase when its level has ended (R125 to R128, R130). -/
def phaseAfterWait (s : State) : Phase :=
  match s.phase with
  | .waitResp => .waitAckLow
  | .waitAckLow => .waitAckHigh
  | .waitAckHigh => .bitWaitLow
  | .bitWaitLow => .bitSettle
  | .bitWaitHigh => if s.bitIdx = 39 then .check else .bitWaitLow
  | p => p

/-- The rate-limit condition of R172, written out. -/
def InsideWindow (s : State) : Prop := s.lastOkValid = true ∧ (s.now - s.lastOkTime).toNat < s.cfg.minPeriod

/-- A `READ` is presented in the coming tick. -/
def ReadPresented (p : Inputs) : Prop := p.cmdValid = true ∧ p.cmdOp = 0x1#4

/-- The longest a transaction can take, in ticks after the tick of its `READ` (R135). -/
def transactionBound (c : Params) : Nat := c.tSettle + startLowTicks c + 6954

/-- How many ticks a phase can hold (R112, R118, R132); `IDLE` keeps `TMR` at 0. -/
def phaseTicks (p : Params) : Phase → Nat
  | .idle => 1
  | .startSettle => p.tSettle
  | .startLow => startLowTicks p
  | .startRelease => 30
  | .waitResp => 41
  | .waitAckLow => 101
  | .waitAckHigh => 101
  | .bitWaitLow => 76
  | .bitSettle => 40
  | .bitWaitHigh => 51
  | .check => 1

/-- How many cells of `BITS` have been written in this transaction (R129, R130). -/
def bitsTaken (s : State) : Nat :=
  match s.phase with
  | .bitWaitHigh => s.bitIdx.val + 1
  | .check => s.bitIdx.val + 1
  | _ => s.bitIdx.val

/-- Byte `n` of a frame as a number, in the layout of R88. -/
def byteOf (frame : BitVec 40) (n : Nat) : Nat := (frame.extractLsb' (32 - 8 * n) 8).toNat

/-- The checksum rule of R88 on a frame, over numbers. -/
def ChecksumHolds (frame : BitVec 40) : Prop :=
  byteOf frame 4 = (byteOf frame 0 + byteOf frame 1 + byteOf frame 2 + byteOf frame 3) % 256

/-- The two cached values are those of a frame under a variant, over numbers (R155, R156). -/
def ReadingOf (v : Variant) (frame : BitVec 40) (hum temp : BitVec 16) : Prop :=
  match v with
  | .v11 => hum.toNat = byteOf frame 0 * 10 ∧ temp.toInt = byteOf frame 2 * 10
  | .v22 =>
    hum.toNat = byteOf frame 0 * 256 + byteOf frame 1 ∧
    temp.toInt = (if 128 ≤ byteOf frame 2 then -(((byteOf frame 2 % 128) * 256 + byteOf frame 3 : Nat) : Int)
      else ((byteOf frame 2 % 128) * 256 + byteOf frame 3 : Nat))

/-- What holds in every reachable state: R41 (a) to (f), and what R23, R24 and R25 say of the working registers. -/
structure MachineInv (s : State) : Prop where
  /-- R11: the configuration satisfies its constraints. -/
  cfgLegal : s.cfg.wellFormed = true
  /-- R41 b. -/
  idleCleared : s.phase = .idle → AtRest s
  /-- R23: `TMR` never outruns its phase. -/
  tmrBounded : s.tmr.toNat < phaseTicks s.cfg s.phase
  /-- R24: `BITIDX` is 0 until the bit loop. -/
  indexBeforeBits : s.phase.code.toNat < 7 → s.bitIdx = 0
  /-- R132: `CHECK` is entered with `BITIDX = 39`. -/
  indexAtCheck : s.phase = .check → s.bitIdx = 39
  /-- R25: the cells of the bits not yet received are 0. -/
  cellsCleared : ∀ i : Fin 40, bitsTaken s ≤ i.val → s.bits[i.val] = false
  /-- R41 c. -/
  frameChecked : ChecksumHolds s.lastFrame
  /-- R41 d. -/
  nothingCached : s.lastOkValid = false → s.lastFrame = 0 ∧ s.humX10 = 0 ∧ s.tempX10 = 0 ∧ s.lastOkTime = 0
  /-- R41 e. -/
  readingDecoded : ReadingOf s.cfg.variant s.lastFrame s.humX10 s.tempX10
  /-- R41 f. -/
  resultInUse : s.lastResult ≠ .busBusy ∧ s.lastResult ≠ .ackTooLong

/-- R41 g as a property of one state: after a success, no transaction runs inside the rate-limit window, and inside it
`LAST_RESULT` is `SUCCESS`. -/
def WindowHolds (s : State) : Prop :=
  s.lastOkValid = true →
    (s.phase ≠ .idle → s.cfg.minPeriod ≤ s.elapsed.toNat) ∧
    (s.elapsed.toNat < s.cfg.minPeriod → s.lastResult = .success)

/-- The line of one bit: a low of 50 ticks and a high pulse of 28 ticks for 0 or 70 ticks for 1 (95_test_vectors.md, opening). -/
def bitWave (b : Bool) : List Level := List.replicate 50 false ++ List.replicate (if b then 70 else 28) true

/-- The line of a whole frame from the first low of bit 0, byte 0 first, most significant bit first, with the low of 50 ticks that
ends it (95_test_vectors.md, opening). -/
def frameWave (frame : BitVec 40) : List Level :=
  (List.range 40).flatMap (fun i => bitWave (frame.getLsbD (39 - i))) ++ List.replicate 50 false

/-- The line of a whole answer from `k` = 0: `H10 L80 H80`, then the frame (95_test_vectors.md, opening). -/
def sensorWave (frame : BitVec 40) : List Level :=
  List.replicate 10 true ++ List.replicate 80 false ++ List.replicate 80 true ++ frameWave frame

/-- A platform premise of R238, over whole nanoseconds: with a tick of `period` nanoseconds, the sampling instant falls after a
short high pulse (about 28 microseconds) and before the end of a long one (about 70 microseconds). No step rests on it (log 11). -/
def samplingSeparates (period : Nat) : Prop := 28000 < 40 * period ∧ 40 * period < 70000

/-- A platform premise of R238: every tick is within `TICK_TOL` of a microsecond, and every such tick separates the pulses and
keeps the start-low hold at or above the variant's minimum (R123: 18 ms, 1 ms), in nanoseconds (log 11). -/
def timeBaseAdequate (p : Params) : Prop :=
  ∀ period, 1000 - Config.tickTol ≤ period → period ≤ 1000 + Config.tickTol →
    samplingSeparates period ∧
      (match p.variant with | .v11 => 18000000 | .v22 => 1000000) ≤ startLowTicks p * period

end Sys2Proof.Safety
end

