-- ==== Sys2Proof/Certificates/Slice0/Obligations.lean ====
section
/-! DEFINITION. The statements for the provers. Each is about every state it speaks of, reachable or not, unless it says MachineInv or
WindowHolds. There is no memory (spec 20_memory.md R60), so a frame speaks of the eleven registers of R20, the configuration and
the coming port samples. -/

open Sys2Proof Sys2Proof.Machine Sys2Proof.Safety

/-! ### Encoding -/

/-- R81: a word of every row, and a byte that is no command word (bytes are the model's choice, log 9). -/
def Obligations.CommandWordsDecodeAsTabled : Prop :=
  decodeWord 0x0#4 = .nop ∧ decodeWord 0x1#4 = .read ∧ decodeWord 0x2#4 = .getres ∧ decodeWord 0x3#4 = .gethum ∧
  decodeWord 0x4#4 = .gettemp ∧ decodeWord 0x5#4 = .getframe ∧ decodeWord 0x6#4 = .gettime ∧
  decodeWord 0x7#4 = .getstat ∧ decodeWord 0x8#4 = .reserved 0 ∧ decodeWord 0xF#4 = .reserved 7 ∧
  decodeTableWord 8 0x1 = some .read ∧ decodeTableWord 8 0xA = some (.reserved 2) ∧ decodeTableWord 8 0x11 = none

/-- R81, R94: a well-formed command is read back from its stored word whatever follows it, and a word that is read is the one
written for the command read from it. The stored form, one byte, is the model's choice (log 9). -/
def Obligations.DecodeAndEncodeAgree : Prop :=
  (∀ (i : Instr) (rest : List Byte), i.wellFormed = true →
    decodeWord (encode i) = i ∧ decodeBytes (encodeBytes i ++ rest) = .ok (i, rest)) ∧
  (∀ (bs rest : List Byte) (i : Instr), decodeBytes bs = .ok (i, rest) → bs = encodeBytes i ++ rest) ∧
  (∀ w : CommandWord, encode (decodeWord w) = w ∧ (decodeWord w).wellFormed = true)

/-- R83: the reserved words are those with bit 3 set. -/
def Obligations.ReservedExactlyWithBitThreeSet : Prop :=
  ∀ w : CommandWord, (∃ x, decodeWord w = .reserved x) ↔ w.getLsbD 3 = true

/-- R85, R87, R82: the numbers of the result codes, the phases and the acknowledgments. -/
def Obligations.CodesAreNumberedAsTabled : Prop :=
  [ResultCode.success, .notDetected, .syncTimeout, .tooFastReads, .dataTimeout, .badChecksum, .busBusy, .ackTooLong].map
    (fun r => r.code.toNat) = List.range 8 ∧
  [Phase.idle, .startSettle, .startLow, .startRelease, .waitResp, .waitAckLow, .waitAckHigh, .bitWaitLow, .bitSettle,
    .bitWaitHigh, .check].map (fun p => p.code.toNat) = List.range 11 ∧
  [Ack.none, .accepted, .refusedBusy, .illegal].map (fun a => a.code.toNat) = List.range 4

/-! ### Steps -/

/-- R9, R170: with no reset and a command presented, the step is the meaning of the command its word decodes to. -/
def Obligations.StepRunsTheDecodedCommand : Prop :=
  ∀ (s : State) (i : Instr), s.ports.rst = false → s.ports.cmdValid = true → decodeWord s.ports.cmdOp = i →
    i.wellFormed = true → step s = exec i s

/-- The command that withFetchWord presents is the one the next step runs, and presenting it leaves the registers, the line sample of
the coming tick, the later listed samples and the index of the free ones (the model's convention, log 2). -/
def Obligations.PresentedWordRunsNext : Prop :=
  ∀ (s : State) (i : Instr), i.wellFormed = true →
    step (s.withFetchWord 8 (encode i).toNat) = exec i (s.withFetchWord 8 (encode i).toNat) ∧
    SameRegisters s (s.withFetchWord 8 (encode i).toNat) ∧
    (s.withFetchWord 8 (encode i).toNat).cfg = s.cfg ∧ (s.withFetchWord 8 (encode i).toNat).out = s.out ∧
    (s.withFetchWord 8 (encode i).toNat).pinSample = s.pinSample ∧
    (s.withFetchWord 8 (encode i).toNat).inputs.tail = s.inputs.tail ∧
    (s.withFetchWord 8 (encode i).toNat).freeIndex = s.freeIndex

/-- R200, R81, R83: no step stops; every state has a next state. -/
def Obligations.EveryStepHasANextState : Prop := ∀ s : State, ∃ t, step s = .next t

/-- R170, R133: with no command presented, `ack(ACK_NONE)`, no `rsp`, and the registers and `done` of the tick are those of the
sequencer's action on the state at its start, the pin outputs and `busy` those of its phase; in `IDLE` nothing but `NOW` changes. -/
def Obligations.TickWithoutCommandOnlySequences : Prop :=
  ∀ s : State, s.ports.rst = false → s.ports.cmdValid = false →
    ∃ t, step s = .next t ∧ t.out.cmdAck = 0 ∧ t.out.rspValid = false ∧ t.out.rspData = 0 ∧ TickPassed s t ∧
      SameWorking (sequencer s).state t ∧ SameSession (sequencer s).state t ∧
      (∀ c, (sequencer s).done = some c → Done t c.code) ∧ ((sequencer s).done = none → NoDone t) ∧
      t.out.pinOe = s.phase.drivesLine ∧ t.out.pinO = s.phase.drivenLevel ∧ t.out.pinPu = true ∧ t.out.busy = s.busy ∧
      (s.phase = .idle → SameWorking s t ∧ SameSession s t ∧ NoDone t)

/-! ### Commands -/

/-- R174. -/
def Obligations.NopOnlyAcknowledges : Prop :=
  ∀ s : State, ∃ t, exec .nop s = .next t ∧ t.out.cmdAck = 1 ∧ t.out.rspValid = false ∧ t.out.rspData = 0 ∧ OnlyAnswers s t

/-- R175. -/
def Obligations.GetresAnswersLastResult : Prop :=
  ∀ s : State, ∃ t, exec .getres s = .next t ∧ t.out.cmdAck = 1 ∧ t.out.rspValid = true ∧
    t.out.rspData = s.lastResult.code.setWidth 64 ∧ OnlyAnswers s t

/-- R176. -/
def Obligations.GethumAnswersCachedHumidity : Prop :=
  ∀ s : State, ∃ t, exec .gethum s = .next t ∧ t.out.cmdAck = 1 ∧ t.out.rspValid = true ∧
    t.out.rspData = s.humX10.setWidth 64 ∧ OnlyAnswers s t

/-- R177: the response, read as a signed number, is the cached temperature. -/
def Obligations.GettempAnswersSignedTemperature : Prop :=
  ∀ s : State, ∃ t, exec .gettemp s = .next t ∧ t.out.cmdAck = 1 ∧ t.out.rspValid = true ∧
    t.out.rspData = s.tempX10.signExtend 64 ∧ t.out.rspData.toInt = s.tempX10.toInt ∧ OnlyAnswers s t

/-- R178. -/
def Obligations.GetframeAnswersLastFrame : Prop :=
  ∀ s : State, ∃ t, exec .getframe s = .next t ∧ t.out.cmdAck = 1 ∧ t.out.rspValid = true ∧
    t.out.rspData = s.lastFrame.setWidth 64 ∧ OnlyAnswers s t

/-- R179. -/
def Obligations.GettimeAnswersLastOkTime : Prop :=
  ∀ s : State, ∃ t, exec .gettime s = .next t ∧ t.out.cmdAck = 1 ∧ t.out.rspValid = true ∧
    t.out.rspData = s.lastOkTime ∧ OnlyAnswers s t

/-- R180, with the image of R37 field by field. -/
def Obligations.GetstatAnswersStatusImage : Prop :=
  ∀ s : State, ∃ t, exec .getstat s = .next t ∧ t.out.cmdAck = 1 ∧ t.out.rspValid = true ∧
    t.out.rspData.getLsbD 0 = decide (s.phase ≠ .idle) ∧ t.out.rspData.getLsbD 1 = s.lastOkValid ∧
    t.out.rspData.getLsbD 2 = decide (s.cfg.variant = .v22) ∧ t.out.rspData.extractLsb' 3 4 = s.phase.code ∧
    (t.out.rspData.extractLsb' 7 6).toNat = s.bitIdx.val ∧ t.out.rspData.extractLsb' 13 51 = 0 ∧ OnlyAnswers s t

/-- R181: every reserved word, whatever its low bits. -/
def Obligations.ReservedWordsAreIllegal : Prop :=
  ∀ (x : BitVec 3) (s : State), ∃ t, exec (.reserved x) s = .next t ∧ t.out.cmdAck = 3 ∧ t.out.rspValid = false ∧
    t.out.rspData = 0 ∧ OnlyAnswers s t

/-- R173. -/
def Obligations.ReadWhileBusyIsDropped : Prop :=
  ∀ s : State, s.phase ≠ .idle →
    ∃ t, exec .read s = .next t ∧ t.out.cmdAck = 2 ∧ t.out.rspValid = false ∧ t.out.rspData = 0 ∧ OnlyAnswers s t

/-- R172: inside the window a `READ` in `IDLE` answers `LAST_RESULT` in its own tick and changes no register but `NOW`; the pin
stays released. -/
def Obligations.RateLimitedReadAnswersFromCache : Prop :=
  ∀ s : State, s.phase = .idle → InsideWindow s →
    ∃ t, exec .read s = .next t ∧ t.out.cmdAck = 1 ∧ t.out.rspValid = false ∧ t.out.rspData = 0 ∧
      Done t s.lastResult.code ∧ SameWorking s t ∧ SameSession s t ∧ TickPassed s t ∧ t.out.pinOe = false ∧
      t.phase.drivesLine = false

/-- R121: outside the window a `READ` in `IDLE` starts a transaction. -/
def Obligations.ReadStartsATransaction : Prop :=
  ∀ s : State, s.phase = .idle → ¬ InsideWindow s →
    ∃ t, exec .read s = .next t ∧ t.out.cmdAck = 1 ∧ t.out.rspValid = false ∧ t.out.rspData = 0 ∧ NoDone t ∧
      t.phase = .startSettle ∧ t.tmr = 0 ∧ t.bitIdx = 0 ∧ t.bits = Vector.replicate 40 false ∧ SameSession s t ∧
      TickPassed s t ∧ t.out.pinOe = false ∧ t.phase.drivesLine = true

/-! ### The sequencer, one tick -/

/-- R118, R122 to R124: one tick of a timed phase, under any command. -/
def Obligations.TimedPhasesCountOrMoveOn : Prop :=
  ∀ (s t : State) (duration : Nat) (next : Phase), Ticks s t → TimedRow s.cfg s.phase duration next →
    (if duration ≤ s.tmr.toNat + 1 then t.phase = next ∧ t.tmr = 0 else t.phase = s.phase ∧ t.tmr = s.tmr + 1) ∧
    t.bitIdx = s.bitIdx ∧ t.bits = s.bits ∧ SameSession s t ∧ TickPassed s t ∧ NoDone t

/-- R111, R125 to R128, R130: one tick of a waiting phase, under any command. -/
def Obligations.WaitingPhasesFollowAwaitLevel : Prop :=
  ∀ (s t : State) (level : Level) (budget : Nat) (e : ResultCode), Ticks s t → WaitRow s.phase level budget e →
    TickPassed s t ∧
    (s.pinSample ≠ level →
      t.phase = phaseAfterWait s ∧ t.tmr = 0 ∧ t.bits = s.bits ∧ SameSession s t ∧ NoDone t ∧
      t.bitIdx.val = (if s.phase = .bitWaitHigh ∧ s.bitIdx ≠ 39 then s.bitIdx.val + 1 else s.bitIdx.val)) ∧
    (s.pinSample = level → s.tmr.toNat = budget → FailedWith s t e) ∧
    (s.pinSample = level → s.tmr.toNat ≠ budget →
      t.phase = s.phase ∧ t.tmr = s.tmr + 1 ∧ t.bitIdx = s.bitIdx ∧ t.bits = s.bits ∧ SameSession s t ∧ NoDone t)

/-- R129: the 40th tick of `BIT_SETTLE` samples the line into the cell of the current bit, and no other tick of it does. -/
def Obligations.BitSettleSamplesOnItsLastTick : Prop :=
  ∀ s t : State, Ticks s t → s.phase = .bitSettle →
    TickPassed s t ∧ SameSession s t ∧ NoDone t ∧ t.bitIdx = s.bitIdx ∧
    (s.tmr.toNat = 39 → t.phase = .bitWaitHigh ∧ t.tmr = 0 ∧ t.bits[s.bitIdx.val] = s.pinSample ∧
      ∀ i : Fin 40, i ≠ s.bitIdx → t.bits[i.val] = s.bits[i.val]) ∧
    (s.tmr.toNat ≠ 39 → t.phase = .bitSettle ∧ t.tmr = s.tmr + 1 ∧ t.bits = s.bits)

/-- R158, R159: the `CHECK` tick commits a frame whose checksum holds, and raises `ERROR_BAD_CHECKSUM` otherwise. -/
def Obligations.CheckCommitsOrRaises : Prop :=
  ∀ s t : State, Ticks s t → s.phase = .check →
    TickPassed s t ∧
    (ChecksumHolds (pack s.bits) →
      t.lastFrame = pack s.bits ∧ ReadingOf s.cfg.variant (pack s.bits) t.humX10 t.tempX10 ∧ t.lastOkTime = s.now ∧
      t.lastOkValid = true ∧ t.lastResult = .success ∧ AtRest t ∧ Done t 0) ∧
    (¬ ChecksumHolds (pack s.bits) → FailedWith s t .badChecksum)

/-- R133: `IDLE` without a `READ` changes no register but `NOW`, whatever the line does. -/
def Obligations.IdleDoesNothing : Prop :=
  ∀ s t : State, Ticks s t → s.phase = .idle → ¬ ReadPresented s.ports →
    SameWorking s t ∧ SameSession s t ∧ TickPassed s t ∧ NoDone t ∧ t.out.pinOe = false

/-- R32, R12: every tick counts `NOW` and leaves the configuration and the later samples. -/
def Obligations.EveryTickCountsNow : Prop := ∀ s t : State, Ticks s t → TickPassed s t

/-- R33, R36: the pin outputs and `busy` of every step, reset or not, follow the phase at its start. That the tick with `rst` = 1 is no
exception is the model's inference (log 18). -/
def Obligations.PinOutputsFollowThePhase : Prop :=
  ∀ s t : State, step s = .next t →
    t.out.pinOe = decide (s.phase = .startSettle ∨ s.phase = .startLow ∨ s.phase = .startRelease) ∧
    t.out.pinO = decide (s.phase ≠ .startLow) ∧ t.out.pinPu = true ∧ t.out.busy = decide (s.phase ≠ .idle)

/-- R22: without reset the phase stays, moves to the next code, goes back from `BIT_WAIT_HIGH` to `BIT_WAIT_LOW`, or ends in
`IDLE`. -/
def Obligations.PhaseOnlyMovesForward : Prop :=
  ∀ s t : State, Ticks s t →
    t.phase = s.phase ∨ t.phase.code.toNat = s.phase.code.toNat + 1 ∨
    (s.phase = .bitWaitHigh ∧ t.phase = .bitWaitLow ∧ t.bitIdx.val = s.bitIdx.val + 1) ∨
    (t.phase = .idle ∧ t.out.doneValid = true)

/-- R182: without reset, `done_valid` is 1 in exactly these ticks: a `READ` in `IDLE` inside the window, the `CHECK` tick, the
timeout of a waiting phase. -/
def Obligations.DoneComesExactlyAtAnEnd : Prop :=
  ∀ s t : State, Ticks s t →
    (t.out.doneValid = true ↔
      (s.phase = .idle ∧ ReadPresented s.ports ∧ InsideWindow s) ∨ s.phase = .check ∨
      ∃ level budget e, WaitRow s.phase level budget e ∧ s.pinSample = level ∧ s.tmr.toNat = budget)

/-- R201, R204: a transaction that ends without success ends in one of six ways, each with its own code, and has the effect of
`raise E` and no other. -/
def Obligations.FailuresHaveTheirCauseAndEffect : Prop :=
  ∀ s t : State, Ticks s t → s.phase ≠ .idle → t.out.doneValid = true → t.out.doneCode ≠ 0 →
    ∃ e, FailedWith s t e ∧ TickPassed s t ∧
      ((e = .notDetected ∧ s.phase = .waitResp ∧ s.pinSample = true ∧ s.tmr.toNat = 40) ∨
       (e = .syncTimeout ∧ s.phase = .waitAckLow ∧ s.pinSample = false ∧ s.tmr.toNat = 100) ∨
       (e = .tooFastReads ∧ s.phase = .waitAckHigh ∧ s.pinSample = true ∧ s.tmr.toNat = 100) ∨
       (e = .dataTimeout ∧ s.phase = .bitWaitLow ∧ s.pinSample = false ∧ s.tmr.toNat = 75) ∨
       (e = .dataTimeout ∧ s.phase = .bitWaitHigh ∧ s.pinSample = true ∧ s.tmr.toNat = 50) ∨
       (e = .badChecksum ∧ s.phase = .check ∧ ¬ ChecksumHolds (pack s.bits)))

/-- R158, R160, R31: without reset the cache changes only in a `CHECK` tick that ends in `done(SUCCESS)`, and `LAST_OK_VALID` is
never cleared. -/
def Obligations.CacheIsWrittenByTheCommitAlone : Prop :=
  ∀ s t : State, Ticks s t →
    (SameCache s t ∨ (s.phase = .check ∧ ChecksumHolds (pack s.bits) ∧ Done t 0)) ∧
    (s.lastOkValid = true → t.lastOkValid = true)

/-- R26: without reset `LAST_RESULT` is written at the end of a transaction and by nothing else, with the code of its `done`. -/
def Obligations.LastResultIsWrittenAtTheEndAlone : Prop :=
  ∀ s t : State, Ticks s t →
    (s.phase ≠ .idle ∧ t.out.doneValid = true → t.out.doneCode = t.lastResult.code) ∧
    (s.phase = .idle ∨ t.out.doneValid = false → t.lastResult = s.lastResult)

/-- R66: inside a transaction a tick writes at most one cell of `BITS`, the one of the current bit. -/
def Obligations.AtMostOneCellIsWritten : Prop :=
  ∀ s t : State, Ticks s t → s.phase ≠ .idle → t.phase ≠ .idle →
    ∀ i : Fin 40, i ≠ s.bitIdx → t.bits[i.val] = s.bits[i.val]

/-- R73: in the phases that do not sample, the step does not depend on `pin_i`. -/
def Obligations.LineIsIgnoredOutsideSampling : Prop :=
  ∀ (s : State) (p : Inputs) (level : Level),
    (s.phase = .idle ∨ s.phase = .startSettle ∨ s.phase = .startLow ∨ s.phase = .startRelease ∨ s.phase = .check ∨
      (s.phase = .bitSettle ∧ s.tmr.toNat ≠ 39)) →
    step (withPorts s p) = step (withPorts s { p with pinI := level })

/-- R135, R173, R207: in a transaction the registers after a tick and its `done` do not depend on the command. -/
def Obligations.CommandsCannotDisturbATransaction : Prop :=
  ∀ (s : State) (p q : Inputs), s.phase ≠ .idle → p.rst = false → q.rst = false → p.pinI = q.pinI →
    ∃ t u, step (withPorts s p) = .next t ∧ step (withPorts s q) = .next u ∧ SameRegisters t u ∧
      u.out.doneValid = t.out.doneValid ∧ u.out.doneCode = t.out.doneCode

/-! ### Reset -/

/-- R230, R232: a tick with `rst` = 1 leads to the registers of R40 from any state, under any command and line level; the command
outputs are idle, no `done`, and from the next tick the pin is released. -/
def Obligations.ResetTickClearsEverything : Prop :=
  ∀ s : State, s.ports.rst = true →
    ∃ t, step s = .next t ∧ AtRest t ∧ t.lastResult = .success ∧ t.lastFrame = 0 ∧ t.humX10 = 0 ∧ t.tempX10 = 0 ∧
      t.lastOkTime = 0 ∧ t.lastOkValid = false ∧ t.now = 0 ∧ t.cfg = s.cfg ∧ t.out.cmdAck = 0 ∧
      t.out.rspValid = false ∧ t.out.rspData = 0 ∧ NoDone t ∧ t.inputs = s.nextPorts.inputs ∧
      ∀ u, step t = .next u → u.out.pinOe = false

/-- R40: the values after reset. -/
def Obligations.ResetStateHoldsTheTabledValues : Prop :=
  AtRest State.reset ∧ State.reset.lastResult = .success ∧ State.reset.lastFrame = 0 ∧ State.reset.humX10 = 0 ∧
  State.reset.tempX10 = 0 ∧ State.reset.lastOkTime = 0 ∧ State.reset.lastOkValid = false ∧ State.reset.now = 0 ∧
  State.reset.out.pinOe = false ∧ State.reset.out.pinO = true ∧ State.reset.out.pinPu = true ∧
  State.reset.out.busy = false ∧ State.reset.out.cmdAck = 0 ∧ State.reset.out.rspValid = false ∧ NoDone State.reset

/-! ### The frame -/

/-- R150, R62: bit `39 - i` of the packed frame is cell `i`, and byte `n` is the weighted sum of its eight cells. -/
def Obligations.PackKeepsArrivalOrder : Prop :=
  ∀ bits : Vector Bool 40,
    (∀ i : Fin 40, (pack bits).getLsbD (39 - i.val) = bits[i.val]) ∧
    (∀ n : Fin 5, byteOf (pack bits) n.val =
      bits[8 * n.val].toNat * 128 + bits[8 * n.val + 1].toNat * 64 + bits[8 * n.val + 2].toNat * 32
        + bits[8 * n.val + 3].toNat * 16 + bits[8 * n.val + 4].toNat * 8 + bits[8 * n.val + 5].toNat * 4
        + bits[8 * n.val + 6].toNat * 2 + bits[8 * n.val + 7].toNat)

/-- R151, R152: the verdict is that the fifth byte is the sum of the other four mod 256. -/
def Obligations.VerifyComparesTheSumModulo256 : Prop := ∀ f : BitVec 40, frameValid f = true ↔ ChecksumHolds f

/-- R153, R155 to R157: the decoded values fit their registers without loss, and lie in the ranges the rules give. -/
def Obligations.DecodedValuesFitTheirRegisters : Prop :=
  ∀ (v : Variant) (f : BitVec 40),
    ReadingOf v f (BitVec.ofNat 16 (humidityTenths v f)) (BitVec.ofInt 16 (temperatureTenths v f)) ∧
    humidityTenths v f ≤ (match v with | .v11 => 2550 | .v22 => 65535) ∧
    (match v with | .v11 => 0 | .v22 => -32767) ≤ temperatureTenths v f ∧
    temperatureTenths v f ≤ (match v with | .v11 => 2550 | .v22 => 32767)

/-! ### Invariants -/

/-- R40, R41: the reset state meets the invariants. -/
def Obligations.ResetMeetsTheInvariants : Prop := MachineInv State.reset ∧ WindowHolds State.reset

/-- R41 a to f, R23 to R25: every step, reset or not, keeps the invariant. -/
def Obligations.EveryStepKeepsTheInvariant : Prop := ∀ s t : State, MachineInv s → step s = .next t → MachineInv t

/-- R41 g: every step keeps the rate-limit window, as long as the time since the last success does not wrap in it (the premise is the
model's reading of R41 g, log 19). -/
def Obligations.EveryStepKeepsTheRateLimitWindow : Prop :=
  ∀ s t : State, WindowHolds s → (s.lastOkValid = true → s.elapsed ≠ BitVec.allOnes 64) → step s = .next t → WindowHolds t

/-- R86, R203: from a state of the invariant the reserved codes are never reported and never written. -/
def Obligations.ReservedCodesNeverAppear : Prop :=
  ∀ s t : State, MachineInv s → step s = .next t →
    t.out.doneCode.toNat ≤ 5 ∧ t.lastResult ≠ .busBusy ∧ t.lastResult ≠ .ackTooLong

/-- R29: in a state of the invariant `TEMP_X10` lies in -32767 to 32767. -/
def Obligations.TemperatureIsNeverTheLeastNumber : Prop :=
  ∀ s : State, MachineInv s → -32767 ≤ s.tempX10.toInt ∧ s.tempX10.toInt ≤ 32767 ∧ s.tempX10 ≠ 0x8000#16

/-- R172, R41 g: with the window kept, a rate-limited `READ` reports `SUCCESS`. -/
def Obligations.RateLimitedReadReportsSuccess : Prop :=
  ∀ s : State, WindowHolds s → s.phase = .idle → InsideWindow s → ∃ t, exec .read s = .next t ∧ Done t 0

/-! ### Runs of ticks -/

/-- R112, R113: a waiting phase whose samples at offsets 0 to `M` all show the level to exit counts them and times out at offset
`M`, in its tick `M + 1`, with its own code. -/
def Obligations.WaitTimesOutAtItsBudget : Prop :=
  ∀ (s : State) (level : Level) (budget : Nat) (e : ResultCode), WaitRow s.phase level budget e → s.tmr = 0 →
    NoReset s (budget + 1) → (∀ k, k ≤ budget → (portsAt s k).pinI = level) →
    (∀ n, n ≤ budget → ∃ t, run n s = .next t ∧ t.phase = s.phase ∧ t.tmr.toNat = n ∧ t.bits = s.bits ∧ SameSession s t) ∧
    ∃ t, run (budget + 1) s = .next t ∧ FailedWith s t e

/-- R112: a waiting phase succeeds at the first offset `j`, at most `M`, whose sample differs from the level to exit. -/
def Obligations.WaitEndsAtTheFirstOtherLevel : Prop :=
  ∀ (s : State) (level : Level) (budget j : Nat) (e : ResultCode), WaitRow s.phase level budget e → s.tmr = 0 →
    j ≤ budget → NoReset s (j + 1) → (∀ k, k < j → (portsAt s k).pinI = level) → (portsAt s j).pinI ≠ level →
    ∃ t, run (j + 1) s = .next t ∧ t.phase = phaseAfterWait s ∧ t.tmr = 0 ∧ t.bits = s.bits ∧ SameSession s t ∧ NoDone t

/-- R118: a timed phase entered with `TMR` = 0 holds exactly its duration. -/
def Obligations.DelayHoldsExactlyItsDuration : Prop :=
  ∀ (s : State) (duration : Nat) (next : Phase), TimedRow s.cfg s.phase duration next → s.tmr = 0 → 1 ≤ duration →
    duration < 2 ^ 32 → NoReset s duration →
    (∀ n, n < duration → ∃ t, run n s = .next t ∧ t.phase = s.phase ∧ t.tmr.toNat = n) ∧
    ∃ t, run duration s = .next t ∧ t.phase = next ∧ t.tmr = 0 ∧ t.bitIdx = s.bitIdx ∧ t.bits = s.bits ∧ SameSession s t

/-- R129: `BIT_SETTLE` entered with `TMR` = 0 holds 40 ticks and samples the line in the last of them, and in no other. -/
def Obligations.BitIsSampledInTheFortiethTick : Prop :=
  ∀ s : State, s.phase = .bitSettle → s.tmr = 0 → NoReset s 40 →
    ∃ t, run 40 s = .next t ∧ t.phase = .bitWaitHigh ∧ t.tmr = 0 ∧ t.bitIdx = s.bitIdx ∧
      t.bits = s.bits.set s.bitIdx.val (portsAt s 39).pinI s.bitIdx.isLt ∧ SameSession s t

/-- R92: from the deciding sample of `BIT_WAIT_LOW`, a high pulse of `w` ticks that stays low after it gives 0 for `w` up to 40,
1 for `w` from 41 to 91, and `ERROR_DATA_TIMEOUT` at tick 91 for `w` from 92. -/
def Obligations.PulseWidthDecidesTheBit : Prop :=
  ∀ (s : State) (w : Nat), s.phase = .bitWaitLow → 1 ≤ w → NoReset s 92 →
    (∀ k, k < 92 → (portsAt s k).pinI = decide (k < w)) →
    if w ≤ 91 then
      ∃ t, run (max 41 w + 1) s = .next t ∧ t.phase = (if s.bitIdx = 39 then .check else .bitWaitLow) ∧ t.tmr = 0 ∧
        t.bits = s.bits.set s.bitIdx.val (decide (41 ≤ w)) s.bitIdx.isLt ∧ SameSession s t ∧ NoDone t
    else ∃ t, run 92 s = .next t ∧ FailedWith s t .dataTimeout

/-- R135, R171, R182: after the tick of a `READ` that starts a transaction, whatever the line and the commands do, `busy` holds
without a `done` until one `done` comes within the bound of R135, with a code from 0 to 5 and the sequencer at rest. -/
def Obligations.EveryTransactionEndsInOneDone : Prop :=
  ∀ s : State, MachineInv s → s.phase = .idle → ReadPresented s.ports → ¬ InsideWindow s →
    NoReset s (transactionBound s.cfg + 1) →
    ∃ n, 1 ≤ n ∧ n ≤ transactionBound s.cfg ∧
      (∀ m, m < n → ∃ u, run (m + 1) s = .next u ∧ NoDone u ∧ u.phase ≠ .idle) ∧
      ∃ t, run (n + 1) s = .next t ∧ t.out.doneValid = true ∧ t.out.doneCode.toNat ≤ 5 ∧ t.out.doneCode = t.lastResult.code ∧
        AtRest t

/-- R245, R201: with a line that is high in the 41 ticks of `WAIT_RESP`, whatever it was before, `done(ERROR_NOT_DETECTED)` comes
exactly `T_SETTLE + T_START_LOW + 30 + 41` ticks after the tick of the `READ`, and the cache stands. -/
def Obligations.AbsentSensorIsReportedOnTime : Prop :=
  ∀ s : State, s.cfg.wellFormed = true → s.phase = .idle → ReadPresented s.ports → ¬ InsideWindow s →
    NoReset s (s.cfg.tSettle + startLowTicks s.cfg + 72) →
    (∀ k, s.cfg.tSettle + startLowTicks s.cfg + 31 ≤ k → k ≤ s.cfg.tSettle + startLowTicks s.cfg + 71 →
      (portsAt s k).pinI = true) →
    (∀ m, m < s.cfg.tSettle + startLowTicks s.cfg + 71 → ∃ u, run (m + 1) s = .next u ∧ NoDone u) ∧
    ∃ t, run (s.cfg.tSettle + startLowTicks s.cfg + 71 + 1) s = .next t ∧ FailedWith s t .notDetected

/-- R183: over any number of ticks without reset and without a `done(SUCCESS)`, whatever commands are issued, the cache stands. -/
def Obligations.CacheStandsBetweenSuccesses : Prop :=
  ∀ (n : Nat) (s t : State), NoReset s n → run n s = .next t →
    (∀ m u, m < n → run (m + 1) s = .next u → ¬ Done u 0) → SameCache s t

/-- R152 (property P2), R155 to R160: a frame delivered by the waveform of 95_test_vectors.md from the first tick of `WAIT_RESP` ends
in `SUCCESS` with that frame cached and decoded if its checksum holds, and otherwise in `ERROR_BAD_CHECKSUM` with the cache as it
was. -/
def Obligations.DeliveredFrameIsDecoded : Prop :=
  ∀ (s : State) (f : BitVec 40), s.phase = .waitResp → s.tmr = 0 → s.bitIdx = 0 →
    NoReset s (sensorWave f).length → (∀ k (h : k < (sensorWave f).length), (portsAt s k).pinI = (sensorWave f)[k]) →
    ∃ n t, n ≤ (sensorWave f).length ∧ run n s = .next t ∧ AtRest t ∧
      (ChecksumHolds f → Done t 0 ∧ t.lastResult = .success ∧ t.lastFrame = f ∧ t.lastOkValid = true ∧
        ReadingOf s.cfg.variant f t.humX10 t.tempX10) ∧
      (¬ ChecksumHolds f → FailedWith s t .badChecksum)

/-! ### The host side -/

/-- R190 to R192: over exact numbers, from the responses of `GETTEMP` and `GETHUM`. -/
def Obligations.ScaleConversionsAreExact : Prop :=
  ∀ (x h : BitVec 16),
    10 * temperatureIn .celsius (x.signExtend 64) = x.toInt ∧
    100 * temperatureIn .fahrenheit (x.signExtend 64) = 18 * x.toInt + 3200 ∧
    100 * temperatureIn .kelvin (x.signExtend 64) = 10 * x.toInt + 27315 ∧
    10 * humidityPercent (h.setWidth 64) = h.toNat
end

