-- ==== Sys2Proof/Laws/State.lean ====
section
/-! SUPPORT. One lemma per field per named update of the state: what the update writes, and that it leaves the rest. -/

namespace Sys2Proof.Machine

section SetphaseFields

variable (s : State) (p : Phase)

@[simp] theorem State.setPhase_phase : (s.setPhase p).phase = p := rfl
@[simp] theorem State.setPhase_tmr : (s.setPhase p).tmr = s.tmr := rfl
@[simp] theorem State.setPhase_bitIdx : (s.setPhase p).bitIdx = s.bitIdx := rfl
@[simp] theorem State.setPhase_bits : (s.setPhase p).bits = s.bits := rfl
@[simp] theorem State.setPhase_lastResult : (s.setPhase p).lastResult = s.lastResult := rfl
@[simp] theorem State.setPhase_lastFrame : (s.setPhase p).lastFrame = s.lastFrame := rfl
@[simp] theorem State.setPhase_humX10 : (s.setPhase p).humX10 = s.humX10 := rfl
@[simp] theorem State.setPhase_tempX10 : (s.setPhase p).tempX10 = s.tempX10 := rfl
@[simp] theorem State.setPhase_lastOkTime : (s.setPhase p).lastOkTime = s.lastOkTime := rfl
@[simp] theorem State.setPhase_lastOkValid : (s.setPhase p).lastOkValid = s.lastOkValid := rfl
@[simp] theorem State.setPhase_now : (s.setPhase p).now = s.now := rfl
@[simp] theorem State.setPhase_cfg : (s.setPhase p).cfg = s.cfg := rfl
@[simp] theorem State.setPhase_out : (s.setPhase p).out = s.out := rfl
@[simp] theorem State.setPhase_inputs : (s.setPhase p).inputs = s.inputs := rfl
@[simp] theorem State.setPhase_freeIndex : (s.setPhase p).freeIndex = s.freeIndex := rfl
@[simp] theorem State.setPhase_ports : (s.setPhase p).ports = s.ports := rfl
@[simp] theorem State.setPhase_pinSample : (s.setPhase p).pinSample = s.pinSample := rfl

end SetphaseFields

section SettmrFields

variable (s : State) (v : BitVec 32)

@[simp] theorem State.setTmr_phase : (s.setTmr v).phase = s.phase := rfl
@[simp] theorem State.setTmr_tmr : (s.setTmr v).tmr = v := rfl
@[simp] theorem State.setTmr_bitIdx : (s.setTmr v).bitIdx = s.bitIdx := rfl
@[simp] theorem State.setTmr_bits : (s.setTmr v).bits = s.bits := rfl
@[simp] theorem State.setTmr_lastResult : (s.setTmr v).lastResult = s.lastResult := rfl
@[simp] theorem State.setTmr_lastFrame : (s.setTmr v).lastFrame = s.lastFrame := rfl
@[simp] theorem State.setTmr_humX10 : (s.setTmr v).humX10 = s.humX10 := rfl
@[simp] theorem State.setTmr_tempX10 : (s.setTmr v).tempX10 = s.tempX10 := rfl
@[simp] theorem State.setTmr_lastOkTime : (s.setTmr v).lastOkTime = s.lastOkTime := rfl
@[simp] theorem State.setTmr_lastOkValid : (s.setTmr v).lastOkValid = s.lastOkValid := rfl
@[simp] theorem State.setTmr_now : (s.setTmr v).now = s.now := rfl
@[simp] theorem State.setTmr_cfg : (s.setTmr v).cfg = s.cfg := rfl
@[simp] theorem State.setTmr_out : (s.setTmr v).out = s.out := rfl
@[simp] theorem State.setTmr_inputs : (s.setTmr v).inputs = s.inputs := rfl
@[simp] theorem State.setTmr_freeIndex : (s.setTmr v).freeIndex = s.freeIndex := rfl
@[simp] theorem State.setTmr_ports : (s.setTmr v).ports = s.ports := rfl
@[simp] theorem State.setTmr_pinSample : (s.setTmr v).pinSample = s.pinSample := rfl

end SettmrFields

section SetbitidxFields

variable (s : State) (i : Fin 40)

@[simp] theorem State.setBitIdx_phase : (s.setBitIdx i).phase = s.phase := rfl
@[simp] theorem State.setBitIdx_tmr : (s.setBitIdx i).tmr = s.tmr := rfl
@[simp] theorem State.setBitIdx_bitIdx : (s.setBitIdx i).bitIdx = i := rfl
@[simp] theorem State.setBitIdx_bits : (s.setBitIdx i).bits = s.bits := rfl
@[simp] theorem State.setBitIdx_lastResult : (s.setBitIdx i).lastResult = s.lastResult := rfl
@[simp] theorem State.setBitIdx_lastFrame : (s.setBitIdx i).lastFrame = s.lastFrame := rfl
@[simp] theorem State.setBitIdx_humX10 : (s.setBitIdx i).humX10 = s.humX10 := rfl
@[simp] theorem State.setBitIdx_tempX10 : (s.setBitIdx i).tempX10 = s.tempX10 := rfl
@[simp] theorem State.setBitIdx_lastOkTime : (s.setBitIdx i).lastOkTime = s.lastOkTime := rfl
@[simp] theorem State.setBitIdx_lastOkValid : (s.setBitIdx i).lastOkValid = s.lastOkValid := rfl
@[simp] theorem State.setBitIdx_now : (s.setBitIdx i).now = s.now := rfl
@[simp] theorem State.setBitIdx_cfg : (s.setBitIdx i).cfg = s.cfg := rfl
@[simp] theorem State.setBitIdx_out : (s.setBitIdx i).out = s.out := rfl
@[simp] theorem State.setBitIdx_inputs : (s.setBitIdx i).inputs = s.inputs := rfl
@[simp] theorem State.setBitIdx_freeIndex : (s.setBitIdx i).freeIndex = s.freeIndex := rfl
@[simp] theorem State.setBitIdx_ports : (s.setBitIdx i).ports = s.ports := rfl
@[simp] theorem State.setBitIdx_pinSample : (s.setBitIdx i).pinSample = s.pinSample := rfl

end SetbitidxFields

section WritebitFields

variable (s : State) (b : Bool)

@[simp] theorem State.writeBit_phase : (s.writeBit b).phase = s.phase := rfl
@[simp] theorem State.writeBit_tmr : (s.writeBit b).tmr = s.tmr := rfl
@[simp] theorem State.writeBit_bitIdx : (s.writeBit b).bitIdx = s.bitIdx := rfl
@[simp] theorem State.writeBit_bits : (s.writeBit b).bits = s.bits.set s.bitIdx.val b s.bitIdx.isLt := rfl
@[simp] theorem State.writeBit_lastResult : (s.writeBit b).lastResult = s.lastResult := rfl
@[simp] theorem State.writeBit_lastFrame : (s.writeBit b).lastFrame = s.lastFrame := rfl
@[simp] theorem State.writeBit_humX10 : (s.writeBit b).humX10 = s.humX10 := rfl
@[simp] theorem State.writeBit_tempX10 : (s.writeBit b).tempX10 = s.tempX10 := rfl
@[simp] theorem State.writeBit_lastOkTime : (s.writeBit b).lastOkTime = s.lastOkTime := rfl
@[simp] theorem State.writeBit_lastOkValid : (s.writeBit b).lastOkValid = s.lastOkValid := rfl
@[simp] theorem State.writeBit_now : (s.writeBit b).now = s.now := rfl
@[simp] theorem State.writeBit_cfg : (s.writeBit b).cfg = s.cfg := rfl
@[simp] theorem State.writeBit_out : (s.writeBit b).out = s.out := rfl
@[simp] theorem State.writeBit_inputs : (s.writeBit b).inputs = s.inputs := rfl
@[simp] theorem State.writeBit_freeIndex : (s.writeBit b).freeIndex = s.freeIndex := rfl
@[simp] theorem State.writeBit_ports : (s.writeBit b).ports = s.ports := rfl
@[simp] theorem State.writeBit_pinSample : (s.writeBit b).pinSample = s.pinSample := rfl

end WritebitFields

section SetlastresultFields

variable (s : State) (r : ResultCode)

@[simp] theorem State.setLastResult_phase : (s.setLastResult r).phase = s.phase := rfl
@[simp] theorem State.setLastResult_tmr : (s.setLastResult r).tmr = s.tmr := rfl
@[simp] theorem State.setLastResult_bitIdx : (s.setLastResult r).bitIdx = s.bitIdx := rfl
@[simp] theorem State.setLastResult_bits : (s.setLastResult r).bits = s.bits := rfl
@[simp] theorem State.setLastResult_lastResult : (s.setLastResult r).lastResult = r := rfl
@[simp] theorem State.setLastResult_lastFrame : (s.setLastResult r).lastFrame = s.lastFrame := rfl
@[simp] theorem State.setLastResult_humX10 : (s.setLastResult r).humX10 = s.humX10 := rfl
@[simp] theorem State.setLastResult_tempX10 : (s.setLastResult r).tempX10 = s.tempX10 := rfl
@[simp] theorem State.setLastResult_lastOkTime : (s.setLastResult r).lastOkTime = s.lastOkTime := rfl
@[simp] theorem State.setLastResult_lastOkValid : (s.setLastResult r).lastOkValid = s.lastOkValid := rfl
@[simp] theorem State.setLastResult_now : (s.setLastResult r).now = s.now := rfl
@[simp] theorem State.setLastResult_cfg : (s.setLastResult r).cfg = s.cfg := rfl
@[simp] theorem State.setLastResult_out : (s.setLastResult r).out = s.out := rfl
@[simp] theorem State.setLastResult_inputs : (s.setLastResult r).inputs = s.inputs := rfl
@[simp] theorem State.setLastResult_freeIndex : (s.setLastResult r).freeIndex = s.freeIndex := rfl
@[simp] theorem State.setLastResult_ports : (s.setLastResult r).ports = s.ports := rfl
@[simp] theorem State.setLastResult_pinSample : (s.setLastResult r).pinSample = s.pinSample := rfl

end SetlastresultFields

section SetcacheFields

variable (s : State) (f : BitVec 40) (h c : BitVec 16) (t : BitVec 64)

@[simp] theorem State.setCache_phase : (s.setCache f h c t).phase = s.phase := rfl
@[simp] theorem State.setCache_tmr : (s.setCache f h c t).tmr = s.tmr := rfl
@[simp] theorem State.setCache_bitIdx : (s.setCache f h c t).bitIdx = s.bitIdx := rfl
@[simp] theorem State.setCache_bits : (s.setCache f h c t).bits = s.bits := rfl
@[simp] theorem State.setCache_lastResult : (s.setCache f h c t).lastResult = s.lastResult := rfl
@[simp] theorem State.setCache_lastFrame : (s.setCache f h c t).lastFrame = f := rfl
@[simp] theorem State.setCache_humX10 : (s.setCache f h c t).humX10 = h := rfl
@[simp] theorem State.setCache_tempX10 : (s.setCache f h c t).tempX10 = c := rfl
@[simp] theorem State.setCache_lastOkTime : (s.setCache f h c t).lastOkTime = t := rfl
@[simp] theorem State.setCache_lastOkValid : (s.setCache f h c t).lastOkValid = true := rfl
@[simp] theorem State.setCache_now : (s.setCache f h c t).now = s.now := rfl
@[simp] theorem State.setCache_cfg : (s.setCache f h c t).cfg = s.cfg := rfl
@[simp] theorem State.setCache_out : (s.setCache f h c t).out = s.out := rfl
@[simp] theorem State.setCache_inputs : (s.setCache f h c t).inputs = s.inputs := rfl
@[simp] theorem State.setCache_freeIndex : (s.setCache f h c t).freeIndex = s.freeIndex := rfl
@[simp] theorem State.setCache_ports : (s.setCache f h c t).ports = s.ports := rfl
@[simp] theorem State.setCache_pinSample : (s.setCache f h c t).pinSample = s.pinSample := rfl

end SetcacheFields

section CountnowFields

variable (s : State)

@[simp] theorem State.countNow_phase : s.countNow.phase = s.phase := rfl
@[simp] theorem State.countNow_tmr : s.countNow.tmr = s.tmr := rfl
@[simp] theorem State.countNow_bitIdx : s.countNow.bitIdx = s.bitIdx := rfl
@[simp] theorem State.countNow_bits : s.countNow.bits = s.bits := rfl
@[simp] theorem State.countNow_lastResult : s.countNow.lastResult = s.lastResult := rfl
@[simp] theorem State.countNow_lastFrame : s.countNow.lastFrame = s.lastFrame := rfl
@[simp] theorem State.countNow_humX10 : s.countNow.humX10 = s.humX10 := rfl
@[simp] theorem State.countNow_tempX10 : s.countNow.tempX10 = s.tempX10 := rfl
@[simp] theorem State.countNow_lastOkTime : s.countNow.lastOkTime = s.lastOkTime := rfl
@[simp] theorem State.countNow_lastOkValid : s.countNow.lastOkValid = s.lastOkValid := rfl
@[simp] theorem State.countNow_now : s.countNow.now = s.now + 1#64 := rfl
@[simp] theorem State.countNow_cfg : s.countNow.cfg = s.cfg := rfl
@[simp] theorem State.countNow_out : s.countNow.out = s.out := rfl
@[simp] theorem State.countNow_inputs : s.countNow.inputs = s.inputs := rfl
@[simp] theorem State.countNow_freeIndex : s.countNow.freeIndex = s.freeIndex := rfl
@[simp] theorem State.countNow_ports : s.countNow.ports = s.ports := rfl
@[simp] theorem State.countNow_pinSample : s.countNow.pinSample = s.pinSample := rfl

end CountnowFields

section SetoutFields

variable (s : State) (o : Outputs)

@[simp] theorem State.setOut_phase : (s.setOut o).phase = s.phase := rfl
@[simp] theorem State.setOut_tmr : (s.setOut o).tmr = s.tmr := rfl
@[simp] theorem State.setOut_bitIdx : (s.setOut o).bitIdx = s.bitIdx := rfl
@[simp] theorem State.setOut_bits : (s.setOut o).bits = s.bits := rfl
@[simp] theorem State.setOut_lastResult : (s.setOut o).lastResult = s.lastResult := rfl
@[simp] theorem State.setOut_lastFrame : (s.setOut o).lastFrame = s.lastFrame := rfl
@[simp] theorem State.setOut_humX10 : (s.setOut o).humX10 = s.humX10 := rfl
@[simp] theorem State.setOut_tempX10 : (s.setOut o).tempX10 = s.tempX10 := rfl
@[simp] theorem State.setOut_lastOkTime : (s.setOut o).lastOkTime = s.lastOkTime := rfl
@[simp] theorem State.setOut_lastOkValid : (s.setOut o).lastOkValid = s.lastOkValid := rfl
@[simp] theorem State.setOut_now : (s.setOut o).now = s.now := rfl
@[simp] theorem State.setOut_cfg : (s.setOut o).cfg = s.cfg := rfl
@[simp] theorem State.setOut_out : (s.setOut o).out = o := rfl
@[simp] theorem State.setOut_inputs : (s.setOut o).inputs = s.inputs := rfl
@[simp] theorem State.setOut_freeIndex : (s.setOut o).freeIndex = s.freeIndex := rfl
@[simp] theorem State.setOut_ports : (s.setOut o).ports = s.ports := rfl
@[simp] theorem State.setOut_pinSample : (s.setOut o).pinSample = s.pinSample := rfl

end SetoutFields

section ClearworkingFields

variable (s : State)

@[simp] theorem State.clearWorking_phase : s.clearWorking.phase = .idle := rfl
@[simp] theorem State.clearWorking_tmr : s.clearWorking.tmr = 0#32 := rfl
@[simp] theorem State.clearWorking_bitIdx : s.clearWorking.bitIdx = 0 := rfl
@[simp] theorem State.clearWorking_bits : s.clearWorking.bits = Vector.replicate 40 false := rfl
@[simp] theorem State.clearWorking_lastResult : s.clearWorking.lastResult = s.lastResult := rfl
@[simp] theorem State.clearWorking_lastFrame : s.clearWorking.lastFrame = s.lastFrame := rfl
@[simp] theorem State.clearWorking_humX10 : s.clearWorking.humX10 = s.humX10 := rfl
@[simp] theorem State.clearWorking_tempX10 : s.clearWorking.tempX10 = s.tempX10 := rfl
@[simp] theorem State.clearWorking_lastOkTime : s.clearWorking.lastOkTime = s.lastOkTime := rfl
@[simp] theorem State.clearWorking_lastOkValid : s.clearWorking.lastOkValid = s.lastOkValid := rfl
@[simp] theorem State.clearWorking_now : s.clearWorking.now = s.now := rfl
@[simp] theorem State.clearWorking_cfg : s.clearWorking.cfg = s.cfg := rfl
@[simp] theorem State.clearWorking_out : s.clearWorking.out = s.out := rfl
@[simp] theorem State.clearWorking_inputs : s.clearWorking.inputs = s.inputs := rfl
@[simp] theorem State.clearWorking_freeIndex : s.clearWorking.freeIndex = s.freeIndex := rfl
@[simp] theorem State.clearWorking_ports : s.clearWorking.ports = s.ports := rfl
@[simp] theorem State.clearWorking_pinSample : s.clearWorking.pinSample = s.pinSample := rfl

end ClearworkingFields

section StarttransactionFields

variable (s : State)

@[simp] theorem State.startTransaction_phase : s.startTransaction.phase = .startSettle := rfl
@[simp] theorem State.startTransaction_tmr : s.startTransaction.tmr = 0#32 := rfl
@[simp] theorem State.startTransaction_bitIdx : s.startTransaction.bitIdx = 0 := rfl
@[simp] theorem State.startTransaction_bits : s.startTransaction.bits = Vector.replicate 40 false := rfl
@[simp] theorem State.startTransaction_lastResult : s.startTransaction.lastResult = s.lastResult := rfl
@[simp] theorem State.startTransaction_lastFrame : s.startTransaction.lastFrame = s.lastFrame := rfl
@[simp] theorem State.startTransaction_humX10 : s.startTransaction.humX10 = s.humX10 := rfl
@[simp] theorem State.startTransaction_tempX10 : s.startTransaction.tempX10 = s.tempX10 := rfl
@[simp] theorem State.startTransaction_lastOkTime : s.startTransaction.lastOkTime = s.lastOkTime := rfl
@[simp] theorem State.startTransaction_lastOkValid : s.startTransaction.lastOkValid = s.lastOkValid := rfl
@[simp] theorem State.startTransaction_now : s.startTransaction.now = s.now := rfl
@[simp] theorem State.startTransaction_cfg : s.startTransaction.cfg = s.cfg := rfl
@[simp] theorem State.startTransaction_out : s.startTransaction.out = s.out := rfl
@[simp] theorem State.startTransaction_inputs : s.startTransaction.inputs = s.inputs := rfl
@[simp] theorem State.startTransaction_freeIndex : s.startTransaction.freeIndex = s.freeIndex := rfl
@[simp] theorem State.startTransaction_ports : s.startTransaction.ports = s.ports := rfl
@[simp] theorem State.startTransaction_pinSample : s.startTransaction.pinSample = s.pinSample := rfl

end StarttransactionFields

section NextPortsFields

variable (s : State)

@[simp] theorem State.nextPorts_phase : s.nextPorts.phase = s.phase := by unfold State.nextPorts; split <;> rfl
@[simp] theorem State.nextPorts_tmr : s.nextPorts.tmr = s.tmr := by unfold State.nextPorts; split <;> rfl
@[simp] theorem State.nextPorts_bitIdx : s.nextPorts.bitIdx = s.bitIdx := by unfold State.nextPorts; split <;> rfl
@[simp] theorem State.nextPorts_bits : s.nextPorts.bits = s.bits := by unfold State.nextPorts; split <;> rfl
@[simp] theorem State.nextPorts_lastResult : s.nextPorts.lastResult = s.lastResult := by unfold State.nextPorts; split <;> rfl
@[simp] theorem State.nextPorts_lastFrame : s.nextPorts.lastFrame = s.lastFrame := by unfold State.nextPorts; split <;> rfl
@[simp] theorem State.nextPorts_humX10 : s.nextPorts.humX10 = s.humX10 := by unfold State.nextPorts; split <;> rfl
@[simp] theorem State.nextPorts_tempX10 : s.nextPorts.tempX10 = s.tempX10 := by unfold State.nextPorts; split <;> rfl
@[simp] theorem State.nextPorts_lastOkTime : s.nextPorts.lastOkTime = s.lastOkTime := by unfold State.nextPorts; split <;> rfl
@[simp] theorem State.nextPorts_lastOkValid : s.nextPorts.lastOkValid = s.lastOkValid := by unfold State.nextPorts; split <;> rfl
@[simp] theorem State.nextPorts_now : s.nextPorts.now = s.now := by unfold State.nextPorts; split <;> rfl
@[simp] theorem State.nextPorts_cfg : s.nextPorts.cfg = s.cfg := by unfold State.nextPorts; split <;> rfl
@[simp] theorem State.nextPorts_out : s.nextPorts.out = s.out := by unfold State.nextPorts; split <;> rfl

/-- The listed samples after the tick's. -/
theorem State.nextPorts_inputs : s.nextPorts.inputs = s.inputs.tail := by
  unfold State.nextPorts; split <;> simp_all

/-- The free samples are counted only when none is listed. -/
theorem State.nextPorts_freeIndex :
    s.nextPorts.freeIndex = if s.inputs = [] then s.freeIndex + 1 else s.freeIndex := by
  unfold State.nextPorts; split <;> simp_all

/-- Which free sample comes next depends on the listed samples and the index alone. -/
theorem State.nextPorts_freeIndex_congr {s t : State} (hi : t.inputs = s.inputs) (hf : t.freeIndex = s.freeIndex) :
    t.nextPorts.freeIndex = s.nextPorts.freeIndex := by
  unfold State.nextPorts; rw [hi, hf]; split <;> rfl

end NextPortsFields

end Sys2Proof.Machine
end

