-- ==== Sys2Proof/Laws/Ops.lean ====
section
/-! SUPPORT. For each shared operation, what it can do, said once: the failure entry, the two primitives, the phases, the tick. Later
proofs cite these and do not unfold the operations. -/

namespace Sys2Proof.Machine

section Endings

variable (e : ResultCode) (s : State)

/-- The effect of `raise E` (R204), field by field. -/
theorem raise_eq :
    raise e s = ⟨{ s with lastResult := e, phase := .idle, tmr := 0#32, bitIdx := 0, bits := Vector.replicate 40 false }, some e⟩ := rfl

@[simp] theorem raise_done : (raise e s).done = some e := rfl
@[simp] theorem raise_state : (raise e s).state = (s.setLastResult e).clearWorking := rfl
@[simp] theorem continueWith_done : (continueWith s).done = none := rfl
@[simp] theorem continueWith_state : (continueWith s).state = s := rfl
@[simp] theorem commit_done (f : BitVec 40) : (commit f s).done = some .success := rfl

/-- The effect of `Commit` (R158) on the registers. -/
@[simp] theorem commit_state (f : BitVec 40) :
    (commit f s).state =
      ((s.setCache f (BitVec.ofNat 16 (humidityTenths s.cfg.variant f)) (BitVec.ofInt 16 (temperatureTenths s.cfg.variant f))
        s.now).setLastResult .success).clearWorking := rfl

end Endings

section Primitives

variable (s : State)

/-- What one tick of `AwaitLevel` can do (R111): succeed, time out, or count. -/
theorem awaitLevel_cases (level : Level) (budget : Nat) (e : ResultCode) (next : State → State) :
    (s.pinSample ≠ level ∧ awaitLevel level budget e next s = continueWith (next (s.setTmr 0#32))) ∨
    (s.pinSample = level ∧ s.tmr.toNat = budget ∧ awaitLevel level budget e next s = raise e s) ∨
    (s.pinSample = level ∧ s.tmr.toNat ≠ budget ∧ awaitLevel level budget e next s = continueWith (s.setTmr (s.tmr + 1#32))) := by
  unfold awaitLevel
  by_cases h : s.pinSample = level
  · by_cases hb : s.tmr.toNat = budget <;> simp [h, hb]
  · simp [h]

/-- What one tick of `Delay` can do (R118): end the phase, or count. -/
theorem delay_cases (duration : Nat) (next : Phase) :
    (duration ≤ s.tmr.toNat + 1 ∧ delay duration next s = continueWith ((s.setTmr 0#32).setPhase next)) ∨
    (s.tmr.toNat + 1 < duration ∧ delay duration next s = continueWith (s.setTmr (s.tmr + 1#32))) := by
  unfold delay
  by_cases h : duration ≤ s.tmr.toNat + 1
  · simp [h]
  · simp [h, Nat.lt_of_not_le h]

/-- What one tick of `BIT_SETTLE` can do (R129): sample and go on, or count. -/
theorem settleAndSample_cases :
    (s.tmr.toNat = 39 ∧
      settleAndSample s = continueWith (((s.writeBit s.pinSample).setTmr 0#32).setPhase .bitWaitHigh)) ∨
    (s.tmr.toNat ≠ 39 ∧ settleAndSample s = continueWith (s.setTmr (s.tmr + 1#32))) := by
  unfold settleAndSample tBitSettle
  by_cases h : s.tmr.toNat = 39 <;> simp [h]

/-- The end of a bit (R130): the next index and `BIT_WAIT_LOW`, or `CHECK` after bit 39. -/
theorem nextBit_cases :
    (∃ h : s.bitIdx.val + 1 < 40, nextBit s = (s.setBitIdx ⟨s.bitIdx.val + 1, h⟩).setPhase .bitWaitLow) ∨
    (s.bitIdx = 39 ∧ nextBit s = s.setPhase .check) := by
  unfold nextBit
  by_cases h : s.bitIdx.val + 1 < 40
  · exact .inl ⟨h, by simp [h]⟩
  · exact .inr ⟨Fin.ext (by have := s.bitIdx.isLt; simp; omega), by simp [h]⟩

/-- What the `CHECK` tick can do (R159): commit a valid frame, or raise `ERROR_BAD_CHECKSUM`. -/
theorem checkFrame_cases :
    (frameValid (pack s.bits) = true ∧ checkFrame s = commit (pack s.bits) s) ∨
    (frameValid (pack s.bits) = false ∧ checkFrame s = raise .badChecksum s) := by
  unfold checkFrame
  cases h : frameValid (pack s.bits) <;> simp

end Primitives

section NextBitFields

variable (s : State)

@[simp] theorem nextBit_tmr : (nextBit s).tmr = s.tmr := by unfold nextBit; split <;> rfl
@[simp] theorem nextBit_bits : (nextBit s).bits = s.bits := by unfold nextBit; split <;> rfl
@[simp] theorem nextBit_lastResult : (nextBit s).lastResult = s.lastResult := by unfold nextBit; split <;> rfl
@[simp] theorem nextBit_lastFrame : (nextBit s).lastFrame = s.lastFrame := by unfold nextBit; split <;> rfl
@[simp] theorem nextBit_humX10 : (nextBit s).humX10 = s.humX10 := by unfold nextBit; split <;> rfl
@[simp] theorem nextBit_tempX10 : (nextBit s).tempX10 = s.tempX10 := by unfold nextBit; split <;> rfl
@[simp] theorem nextBit_lastOkTime : (nextBit s).lastOkTime = s.lastOkTime := by unfold nextBit; split <;> rfl
@[simp] theorem nextBit_lastOkValid : (nextBit s).lastOkValid = s.lastOkValid := by unfold nextBit; split <;> rfl
@[simp] theorem nextBit_now : (nextBit s).now = s.now := by unfold nextBit; split <;> rfl
@[simp] theorem nextBit_cfg : (nextBit s).cfg = s.cfg := by unfold nextBit; split <;> rfl
@[simp] theorem nextBit_out : (nextBit s).out = s.out := by unfold nextBit; split <;> rfl
@[simp] theorem nextBit_inputs : (nextBit s).inputs = s.inputs := by unfold nextBit; split <;> rfl
@[simp] theorem nextBit_freeIndex : (nextBit s).freeIndex = s.freeIndex := by unfold nextBit; split <;> rfl

end NextBitFields

section SequencerRows

/-! The rows of R134's table, one equation per phase. -/

variable {s : State}

theorem sequencer_idle (h : s.phase = .idle) : sequencer s = continueWith s := by simp [sequencer, h]
theorem sequencer_startSettle (h : s.phase = .startSettle) : sequencer s = delay s.cfg.tSettle .startLow s := by
  simp [sequencer, h]
theorem sequencer_startLow (h : s.phase = .startLow) : sequencer s = delay (startLowTicks s.cfg) .startRelease s := by
  simp [sequencer, h]
theorem sequencer_startRelease (h : s.phase = .startRelease) : sequencer s = delay 30 .waitResp s := by
  simp [sequencer, h, tRelease]
theorem sequencer_waitResp (h : s.phase = .waitResp) :
    sequencer s = awaitLevel true 40 .notDetected (·.setPhase .waitAckLow) s := by simp [sequencer, h, mResp]
theorem sequencer_waitAckLow (h : s.phase = .waitAckLow) :
    sequencer s = awaitLevel false 100 .syncTimeout (·.setPhase .waitAckHigh) s := by simp [sequencer, h, mAckLow]
theorem sequencer_waitAckHigh (h : s.phase = .waitAckHigh) :
    sequencer s = awaitLevel true 100 .tooFastReads (·.setPhase .bitWaitLow) s := by simp [sequencer, h, mAckHigh]
theorem sequencer_bitWaitLow (h : s.phase = .bitWaitLow) :
    sequencer s = awaitLevel false 75 .dataTimeout (·.setPhase .bitSettle) s := by simp [sequencer, h, mBitLow]
theorem sequencer_bitSettle (h : s.phase = .bitSettle) : sequencer s = settleAndSample s := by simp [sequencer, h]
theorem sequencer_bitWaitHigh (h : s.phase = .bitWaitHigh) :
    sequencer s = awaitLevel true 50 .dataTimeout nextBit s := by simp [sequencer, h, mBitHigh]
theorem sequencer_check (h : s.phase = .check) : sequencer s = checkFrame s := by simp [sequencer, h]

end SequencerRows

/-- What the sequencer never writes: `NOW`, the configuration, the outputs, the listed samples. -/
def UntouchedBySequencer (s t : State) : Prop :=
  t.now = s.now ∧ t.cfg = s.cfg ∧ t.out = s.out ∧ t.inputs = s.inputs ∧ t.freeIndex = s.freeIndex

theorem sequencer_untouched (s : State) : UntouchedBySequencer s (sequencer s).state := by
  have wait : ∀ (l : Level) (m : Nat) (e : ResultCode) (next : State → State),
      (∀ u, UntouchedBySequencer u (next u)) → UntouchedBySequencer s (awaitLevel l m e next s).state := by
    intro l m e next hn
    obtain ⟨-, h⟩ | ⟨-, -, h⟩ | ⟨-, -, h⟩ := awaitLevel_cases s l m e next <;> rw [h]
    · have := hn (s.setTmr 0#32); simpa [UntouchedBySequencer] using this
    · simp [UntouchedBySequencer]
    · simp [UntouchedBySequencer]
  have hold : ∀ (d : Nat) (p : Phase), UntouchedBySequencer s (delay d p s).state := by
    intro d p
    obtain ⟨-, h⟩ | ⟨-, h⟩ := delay_cases s d p <;> rw [h] <;> simp [UntouchedBySequencer]
  cases h : s.phase
  case idle => simp [sequencer_idle h, UntouchedBySequencer]
  case startSettle => rw [sequencer_startSettle h]; exact hold _ _
  case startLow => rw [sequencer_startLow h]; exact hold _ _
  case startRelease => rw [sequencer_startRelease h]; exact hold _ _
  case waitResp => rw [sequencer_waitResp h]; exact wait _ _ _ _ (by simp [UntouchedBySequencer])
  case waitAckLow => rw [sequencer_waitAckLow h]; exact wait _ _ _ _ (by simp [UntouchedBySequencer])
  case waitAckHigh => rw [sequencer_waitAckHigh h]; exact wait _ _ _ _ (by simp [UntouchedBySequencer])
  case bitWaitLow => rw [sequencer_bitWaitLow h]; exact wait _ _ _ _ (by simp [UntouchedBySequencer])
  case bitSettle =>
    rw [sequencer_bitSettle h]
    obtain ⟨-, h⟩ | ⟨-, h⟩ := settleAndSample_cases s <;> rw [h] <;> simp [UntouchedBySequencer]
  case bitWaitHigh => rw [sequencer_bitWaitHigh h]; exact wait _ _ _ _ (by simp [UntouchedBySequencer])
  case check =>
    rw [sequencer_check h]
    obtain ⟨-, h⟩ | ⟨-, h⟩ := checkFrame_cases s <;> rw [h] <;> simp [UntouchedBySequencer]

section FinishTick

variable (s : State) (o : Outputs)

@[simp] theorem finishTick_phase : (finishTick s o).phase = s.phase := by simp [finishTick]
@[simp] theorem finishTick_tmr : (finishTick s o).tmr = s.tmr := by simp [finishTick]
@[simp] theorem finishTick_bitIdx : (finishTick s o).bitIdx = s.bitIdx := by simp [finishTick]
@[simp] theorem finishTick_bits : (finishTick s o).bits = s.bits := by simp [finishTick]
@[simp] theorem finishTick_lastResult : (finishTick s o).lastResult = s.lastResult := by simp [finishTick]
@[simp] theorem finishTick_lastFrame : (finishTick s o).lastFrame = s.lastFrame := by simp [finishTick]
@[simp] theorem finishTick_humX10 : (finishTick s o).humX10 = s.humX10 := by simp [finishTick]
@[simp] theorem finishTick_tempX10 : (finishTick s o).tempX10 = s.tempX10 := by simp [finishTick]
@[simp] theorem finishTick_lastOkTime : (finishTick s o).lastOkTime = s.lastOkTime := by simp [finishTick]
@[simp] theorem finishTick_lastOkValid : (finishTick s o).lastOkValid = s.lastOkValid := by simp [finishTick]
@[simp] theorem finishTick_now : (finishTick s o).now = s.now + 1#64 := by simp [finishTick]
@[simp] theorem finishTick_cfg : (finishTick s o).cfg = s.cfg := by simp [finishTick]
@[simp] theorem finishTick_out : (finishTick s o).out = o := by simp [finishTick]
@[simp] theorem finishTick_inputs : (finishTick s o).inputs = s.nextPorts.inputs := by
  simp [finishTick, State.nextPorts_inputs]
@[simp] theorem finishTick_freeIndex : (finishTick s o).freeIndex = s.nextPorts.freeIndex :=
  State.nextPorts_freeIndex_congr (by simp) (by simp)

end FinishTick

section Tick

variable (s : State) (e : CommandEffect)

/-- A tick whose command starts nothing: the sequencer's action, then the end of the tick. -/
theorem tick_of_not_starts (h : e.starts = false) :
    tick s e = finishTick (sequencer s).state (outputsOf s e ((sequencer s).done <|> e.done)) := by simp [tick, h]

/-- A tick in `IDLE` whose command starts a transaction (R121). -/
theorem tick_of_starts (hi : s.phase = .idle) (h : e.starts = true) :
    tick s e = finishTick s.startTransaction (outputsOf s e e.done) := by simp [tick, h, sequencer_idle hi]

/-- The outputs of a tick are those of the state at its start. -/
@[simp] theorem tick_out : (tick s e).out = outputsOf s e ((sequencer s).done <|> e.done) := by simp [tick]

end Tick

end Sys2Proof.Machine
end

