-- ==== Sys2Proof/Laws/PerInstr.lean ====
section
/-! SUPPORT. The per-instruction family: the word of every instruction lies in its own row of R81's table. -/

namespace Sys2Proof.Laws

/-- The `match` and the `mask` of an instruction's row (R81). -/
def rowOf : Instr → CommandWord × CommandWord
  | .nop => (0x0#4, 0xF#4)
  | .read => (0x1#4, 0xF#4)
  | .getres => (0x2#4, 0xF#4)
  | .gethum => (0x3#4, 0xF#4)
  | .gettemp => (0x4#4, 0xF#4)
  | .getframe => (0x5#4, 0xF#4)
  | .gettime => (0x6#4, 0xF#4)
  | .getstat => (0x7#4, 0xF#4)
  | .reserved _ => (0x8#4, 0x8#4)

/-- The word of `i` selects the row of `i` (R81). -/
def WordMatchesRow.Statement (i : Instr) : Prop := encode i &&& (rowOf i).2 = (rowOf i).1

theorem WordMatchesRow.nop : WordMatchesRow.Statement .nop := rfl
theorem WordMatchesRow.read : WordMatchesRow.Statement .read := rfl
theorem WordMatchesRow.getres : WordMatchesRow.Statement .getres := rfl
theorem WordMatchesRow.gethum : WordMatchesRow.Statement .gethum := rfl
theorem WordMatchesRow.gettemp : WordMatchesRow.Statement .gettemp := rfl
theorem WordMatchesRow.getframe : WordMatchesRow.Statement .getframe := rfl
theorem WordMatchesRow.gettime : WordMatchesRow.Statement .gettime := rfl
theorem WordMatchesRow.getstat : WordMatchesRow.Statement .getstat := rfl
theorem WordMatchesRow.reserved (x : BitVec 3) : WordMatchesRow.Statement (.reserved x) := by
  unfold WordMatchesRow.Statement; revert x; decide

end Sys2Proof.Laws
end

