-- ==== Sys2Proof/Laws/Step.lean ====
section
/-! SUPPORT. What a step can do, said once, and how runs and later samples unfold. -/

namespace Sys2Proof.Machine

open Sys2Proof.Safety

/-- What each command does in its tick (R170), as one function of the command. -/
def commandEffect (i : Instr) (s : State) : CommandEffect :=
  match i with
  | .nop => acknowledge .accepted
  | .read => readEffect s
  | .getres => respond (resultImage s)
  | .gethum => respond (humidityImage s)
  | .gettemp => respond (temperatureImage s)
  | .getframe => respond (frameImage s)
  | .gettime => respond (timeImage s)
  | .getstat => respond (statusImage s)
  | .reserved _ => acknowledge .illegal

/-- Every command takes one tick and answers a next state. -/
theorem exec_eq_tick (i : Instr) (s : State) : exec i s = .next (tick s (commandEffect i s)) := by cases i <;> rfl

/-- The rate-limit flag is the condition of R172. -/
theorem rateLimited_iff (s : State) : s.rateLimited = true ↔ InsideWindow s := by
  simp only [State.rateLimited, InsideWindow, State.elapsed, Bool.and_eq_true]
  exact and_congr_right fun _ => decide_eq_true_iff

/-- What a `READ` can do in its tick (R171): refused, answered from the cache, or a transaction starts. -/
theorem readEffect_cases (s : State) :
    (s.phase ≠ .idle ∧ readEffect s = acknowledge .refusedBusy) ∨
    (s.phase = .idle ∧ InsideWindow s ∧ readEffect s = ⟨.accepted, none, some s.lastResult, false⟩) ∨
    (s.phase = .idle ∧ ¬ InsideWindow s ∧ readEffect s = ⟨.accepted, none, none, true⟩) := by
  by_cases hb : s.phase = .idle
  · by_cases hw : InsideWindow s
    · have := (rateLimited_iff s).2 hw
      simp [readEffect, State.busy, hb, hw, this]
    · have : s.rateLimited = false := Bool.eq_false_iff.2 (mt (rateLimited_iff s).1 hw)
      simp [readEffect, State.busy, hb, hw, this]
  · simp [readEffect, State.busy, hb]

/-- Only a `READ` starts a transaction, and only in `IDLE` outside the rate-limit window (R171). -/
theorem commandEffect_starts {i : Instr} {s : State} (h : (commandEffect i s).starts = true) :
    i = .read ∧ s.phase = .idle ∧ s.rateLimited = false := by
  cases i <;> simp [commandEffect, respond, acknowledge] at h
  refine ⟨rfl, ?_⟩
  unfold readEffect at h
  by_cases hb : s.busy = true
  · simp [hb, acknowledge] at h
  · by_cases hl : s.rateLimited = true
    · simp [hb, hl] at h
    · exact ⟨by simpa [State.busy] using hb, by simpa using hl⟩

/-- A step is a reset tick, or a tick with some command's effect, or a tick with none; it never stops. -/
theorem step_cases (s : State) :
    (s.ports.rst = true ∧ step s = .next (resetTick s)) ∨
    (s.ports.rst = false ∧ s.ports.cmdValid = true ∧
      step s = .next (tick s (commandEffect (decodeWord s.ports.cmdOp) s))) ∨
    (s.ports.rst = false ∧ s.ports.cmdValid = false ∧ step s = .next (tick s noCommand)) := by
  unfold step
  cases hr : s.ports.rst <;> cases hc : s.ports.cmdValid <;> simp [exec_eq_tick]

@[simp] theorem run_zero (s : State) : run 0 s = .next s := rfl

/-- One more step of any machine, taken first. -/
theorem coreRun_succ {M : Host.Core} {s t : M.State} (n : Nat) (h : M.step s = .next t) : M.run (n + 1) s = M.run n t := by
  simp only [Host.Core.run, h]

/-- One more tick, taken first. -/
theorem run_succ {s t : State} (n : Nat) (h : step s = .next t) : run (n + 1) s = run n t :=
  coreRun_succ (M := core) n h

/-- Runs join end to end. -/
theorem run_add {s t : State} (m n : Nat) (h : run m s = .next t) : run (m + n) s = run n t := by
  induction m generalizing s with
  | zero => cases h; simp
  | succ m ih =>
    obtain ⟨-, hs⟩ | ⟨-, -, hs⟩ | ⟨-, -, hs⟩ := step_cases s <;>
      (rw [run_succ m hs] at h; rw [Nat.succ_add, run_succ (m + n) hs]; exact ih h)

@[simp] theorem portsAt_zero (s : State) : portsAt s 0 = s.ports := rfl
@[simp] theorem portsAt_succ (s : State) (k : Nat) : portsAt s (k + 1) = portsAt s.nextPorts k := rfl

/-- The samples on the ports depend on the listed ones and the free index alone. -/
theorem portsAt_congr {s t : State} (hi : t.inputs = s.inputs) (hf : t.freeIndex = s.freeIndex) (k : Nat) :
    portsAt t k = portsAt s k := by
  induction k generalizing s t with
  | zero => simp [State.ports, hi, hf]
  | succ k ih =>
    exact ih (by simp [State.nextPorts_inputs, hi]) (State.nextPorts_freeIndex_congr hi hf)

/-- A listed sample is the one on the ports. -/
theorem portsAt_listed {s : State} {l : List Inputs} (hl : s.inputs = l) (k : Nat) (h : k < l.length) : portsAt s k = l[k] := by
  induction k generalizing s l with
  | zero =>
    cases l with
    | nil => simp at h
    | cons a l => simp [State.ports, hl]
  | succ k ih =>
    cases l with
    | nil => simp at h
    | cons a l =>
      rw [portsAt_succ, ih (l := l) (by simp [State.nextPorts, hl]) (by simpa using h)]
      simp

/-- Equal listed samples are all the same on the ports. -/
theorem portsAt_replicate {s : State} {n : Nat} {i : Inputs} (hl : s.inputs = List.replicate n i) (k : Nat) (h : k < n) :
    portsAt s k = i := by
  rw [portsAt_listed hl k (by simpa using h), List.getElem_replicate]

/-- Listed samples without `rst` are ticks without reset. -/
theorem noReset_listed {s : State} {l : List Inputs} (hl : s.inputs = l) (n : Nat) (hn : n ≤ l.length)
    (h : ∀ i ∈ l, i.rst = false) : NoReset s n := fun k hk => by
  rw [portsAt_listed hl k (Nat.lt_of_lt_of_le hk hn)]
  exact h _ (List.getElem_mem _)

end Sys2Proof.Machine
end

