-- ==== Sys2Proof/Tests/Slice0.lean ====
section
/-! SUPPORT. The model's own tests. Expected values are those of spec/ (95_test_vectors.md by their ids, or the example of the rule
named), never the model's own answers. After the tests of single words, operations and commands stand the witnesses: for each
statement with hypotheses, a state and operands that meet all of them together. -/

namespace Sys2Proof.Tests

open Sys2Proof.Machine Sys2Proof.Safety

/-! ### Helpers -/

/-- The reset state under a variant with the defaults of R11 and a settle of one tick. -/
def base (v : Variant) : State := { State.reset with cfg := Params.defaults v 1 }

/-- No command, no reset, the line at `pin`. -/
def lineAt (pin : Level) : Inputs := { rst := false, pinI := pin, cmdValid := false, cmdOp := 0#4 }

/-- A command with the line high. -/
def command (op : CommandWord) : Inputs := { rst := false, pinI := true, cmdValid := true, cmdOp := op }

/-- The next state; every step has one. -/
def nextOf (s : State) : State :=
  match step s with
  | .next t => t
  | .fault _ => s
  | .refused _ => s

/-- A state in a given phase, with one listed sample. -/
def inPhase (v : Variant) (p : Phase) (t : BitVec 32) (i : Fin 40) (inp : Inputs) : State :=
  { base v with phase := p, tmr := t, bitIdx := i, inputs := [inp] }

/-- The cells of a frame in arrival order (R88). -/
def cellsOf (f : BitVec 40) : Vector Bool 40 := Vector.ofFn (fun i => f.getLsbD (39 - i.val))

/-- In the `CHECK` tick of a frame (R132). -/
def checking (v : Variant) (f : BitVec 40) (inp : Inputs) : State :=
  { inPhase v .check 0#32 39 inp with bits := cellsOf f }

/-- Idle after the success of frame F1 at `NOW` = 21672 (95_test_vectors.md, 2.7), at a later `NOW`. -/
def afterF1 (now : BitVec 64) (inp : Inputs) : State :=
  { base .v11 with
    lastFrame := 0x320018004A#40, humX10 := 500#16, tempX10 := 240#16, lastOkTime := 21672#64, lastOkValid := true
    now := now, inputs := [inp] }

/-- Idle after the success of frame F4 (95_test_vectors.md, 2.5). -/
def afterF4 (inp : Inputs) : State :=
  { base .v22 with
    lastFrame := 0x028C801927#40, humX10 := 652#16, tempX10 := 0xFFE7#16, lastOkTime := 5827#64, lastOkValid := true
    now := 6000#64, inputs := [inp] }

/-! ### Well-formedness: each check refuses an ill-formed configuration (R11, D8 to D10) -/

theorem test_defaults_wellFormed : (Params.defaults .v11 1).wellFormed = true := by decide
theorem test_settle_zero_refused : (Params.defaults .v11 0).wellFormed = false := by decide
theorem test_settle_too_long_refused : (Params.defaults .v11 4294967296).wellFormed = false := by decide
theorem test_startLowV11_short_refused : { Params.defaults .v11 1 with tStartLowV11 := 17999 }.wellFormed = false := by decide
theorem test_startLowV11_long_refused : { Params.defaults .v11 1 with tStartLowV11 := 4294967296 }.wellFormed = false := by decide
theorem test_startLowV22_short_refused : { Params.defaults .v22 1 with tStartLowV22 := 999 }.wellFormed = false := by decide
theorem test_startLowV22_long_refused : { Params.defaults .v22 1 with tStartLowV22 := 4294967296 }.wellFormed = false := by decide
theorem test_minPeriod_short_refused : { Params.defaults .v11 1 with minPeriod := 1999999 }.wellFormed = false := by decide
theorem test_minPeriod_long_refused : { Params.defaults .v11 1 with minPeriod := 4294967296 }.wellFormed = false := by decide

/-! ### Decoding: one word per row of R81, written out bit by bit -/

theorem test_decode_nop : decodeWord 0b0000#4 = .nop := by decide
theorem test_decode_read : decodeWord 0b0001#4 = .read := by decide
theorem test_decode_getres : decodeWord 0b0010#4 = .getres := by decide
theorem test_decode_gethum : decodeWord 0b0011#4 = .gethum := by decide
theorem test_decode_gettemp : decodeWord 0b0100#4 = .gettemp := by decide
theorem test_decode_getframe : decodeWord 0b0101#4 = .getframe := by decide
theorem test_decode_gettime : decodeWord 0b0110#4 = .gettime := by decide
theorem test_decode_getstat : decodeWord 0b0111#4 = .getstat := by decide
theorem test_decode_reserved : decodeWord 0b1101#4 = .reserved 0b101#3 := by decide
theorem test_decode_stored_words :
    decodeTableWord 8 0x5 = some .getframe ∧ decodeTableWord 4 0xF = some (.reserved 7#3) ∧ decodeTableWord 8 0x15 = none := by
  decide

/-! ### Commands, one step each -/

/-- H1. -/
theorem test_no_command :
    (nextOf (inPhase .v11 .idle 0 0 (lineAt true))).out.cmdAck = 0 ∧ (nextOf (inPhase .v11 .idle 0 0 (lineAt true))).now = 1 := by
  decide

/-- H2. -/
theorem test_nop :
    (nextOf (inPhase .v11 .idle 0 0 (command 0x0))).out.cmdAck = 1 ∧
    (nextOf (inPhase .v11 .idle 0 0 (command 0x0))).out.rspValid = false ∧
    (nextOf (inPhase .v11 .idle 0 0 (command 0x0))).phase = .idle := by decide

/-- R174's example: the transaction goes on. -/
theorem test_nop_during_start_low :
    (nextOf (inPhase .v11 .startLow 500 0 (command 0x0))).phase = .startLow ∧
    (nextOf (inPhase .v11 .startLow 500 0 (command 0x0))).tmr = 501 := by decide

/-- H6, L3, L2, L5: a transaction starts after reset and at an elapsed time of exactly the period, not one tick before it, and not
inside a window that spans the wrap of `NOW`. -/
theorem test_read_in_idle :
    (nextOf (inPhase .v11 .idle 0 0 (command 0x1))).phase = .startSettle ∧
    (nextOf (afterF1 3021672 (command 0x1))).phase = .startSettle ∧
    (nextOf (afterF1 3021671 (command 0x1))).phase = .idle ∧
    (nextOf (afterF1 3021671 (command 0x1))).out.doneValid = true ∧
    (nextOf { afterF1 5 (command 0x1) with lastOkTime := 0xFFFFFFFFFFFFFFF6 }).phase = .idle := by decide

/-- H7, H14: refused, and the running transaction commits all the same. -/
theorem test_read_while_busy :
    (nextOf (inPhase .v11 .startLow 500 0 (command 0x1))).out.cmdAck = 2 ∧
    (nextOf (inPhase .v11 .startLow 500 0 (command 0x1))).out.doneValid = false ∧
    (nextOf (checking .v11 0x320018004A (command 0x1))).out.cmdAck = 2 ∧
    (nextOf (checking .v11 0x320018004A (command 0x1))).humX10 = 500 := by decide

/-- R175's example. -/
theorem test_getres :
    (nextOf { inPhase .v11 .idle 0 0 (command 0x2) with lastResult := .badChecksum }).out.rspData = 5 := by decide

/-- H10, and H13: the old value in the `CHECK` tick. -/
theorem test_gethum :
    (nextOf (afterF4 (command 0x3))).out.rspData = 0x28C ∧
    (nextOf (checking .v11 0x320018004A (command 0x3))).out.rspData = 0 ∧
    (nextOf (checking .v11 0x320018004A (command 0x3))).out.doneValid = true := by decide

/-- H9. -/
theorem test_gettemp : (nextOf (afterF4 (command 0x4))).out.rspData = 0xFFFFFFFFFFFFFFE7 := by decide

/-- R178's example. -/
theorem test_getframe : (nextOf (afterF1 30000 (command 0x5))).out.rspData = 0x000000320018004A := by decide

/-- H11. -/
theorem test_gettime : (nextOf (afterF1 30000 (command 0x6))).out.rspData = 0x54A8 := by decide

/-- H5, H12 and R180's first example. -/
theorem test_getstat :
    (nextOf (inPhase .v22 .idle 0 0 (command 0x7))).out.rspData = 0x4 ∧
    (nextOf (inPhase .v11 .bitSettle 3 5 (command 0x7))).out.rspData = 0x2C1 ∧
    (nextOf (afterF4 (command 0x7))).out.rspData = 0x6 := by decide

/-- H8. -/
theorem test_reserved :
    (nextOf (inPhase .v11 .idle 0 0 (command 0xA))).out.cmdAck = 3 ∧
    (nextOf (inPhase .v11 .startLow 7 0 (command 0xF))).out.cmdAck = 3 ∧
    (nextOf (inPhase .v11 .startLow 7 0 (command 0xF))).tmr = 8 := by decide

/-- X2: reset during the start low; the pin is released from the next tick. -/
theorem test_reset_in_start_low :
    (nextOf (inPhase .v11 .startLow 500 0 { command 0x1 with rst := true })).phase = .idle ∧
    (nextOf (inPhase .v11 .startLow 500 0 { command 0x1 with rst := true })).out.doneValid = false ∧
    (nextOf (inPhase .v11 .startLow 500 0 { command 0x1 with rst := true })).phase.drivesLine = false := by decide

/-! ### The sequencer and the frame -/

/-- A3, A4: offset 40 still succeeds, and times out on the same level. -/
theorem test_await_at_budget :
    (nextOf (inPhase .v11 .waitResp 40 0 (lineAt false))).phase = .waitAckLow ∧
    (nextOf (inPhase .v11 .waitResp 40 0 (lineAt true))).out.doneCode = 1 := by decide

/-- The codes of R201 for the other waiting phases, at their budgets (S3, S5, S7, S9). -/
theorem test_timeout_codes :
    (nextOf (inPhase .v11 .waitAckLow 100 0 (lineAt false))).out.doneCode = 2 ∧
    (nextOf (inPhase .v11 .waitAckHigh 100 0 (lineAt true))).out.doneCode = 3 ∧
    (nextOf (inPhase .v11 .bitWaitLow 75 0 (lineAt false))).out.doneCode = 4 ∧
    (nextOf (inPhase .v11 .bitWaitHigh 50 0 (lineAt true))).out.doneCode = 4 := by decide

/-- D1, D4: the release holds 30 ticks, the settle of one tick holds one. -/
theorem test_delay_last_tick :
    (nextOf (inPhase .v11 .startRelease 28 0 (lineAt true))).phase = .startRelease ∧
    (nextOf (inPhase .v11 .startRelease 29 0 (lineAt true))).phase = .waitResp ∧
    (nextOf (inPhase .v11 .startSettle 0 0 (lineAt true))).phase = .startLow := by decide

/-- R130: the next bit, and `CHECK` after bit 39. -/
theorem test_bit_loop :
    (nextOf (inPhase .v11 .bitWaitHigh 0 0 (lineAt false))).bitIdx = 1 ∧
    (nextOf (inPhase .v11 .bitWaitHigh 0 39 (lineAt false))).phase = .check := by decide

/-- F1 to F11: the verdict. -/
theorem test_verdicts :
    frameValid 0x320018004A = true ∧ frameValid 0x320018004B = false ∧ frameValid 0xFF0780098F = true ∧
    frameValid 0x028C801927 = true ∧ frameValid 0xFFFFFFFFFC = true ∧ frameValid 0xFFFFFFFFFF = false := by decide

/-- F3, F4, F5, F6, F7, F8: the decode. -/
theorem test_decoded_values :
    humidityTenths .v11 0xFF0780098F = 2550 ∧ temperatureTenths .v11 0xFF0780098F = 1280 ∧
    humidityTenths .v22 0x028C801927 = 652 ∧ temperatureTenths .v22 0x028C801927 = -25 ∧
    temperatureTenths .v22 0x028C015FEE = 351 ∧ temperatureTenths .v22 0x0000800080 = 0 ∧
    temperatureTenths .v22 0xFFFFFFFFFC = -32767 ∧ temperatureTenths .v22 0x00007FFF7E = 32767 := by decide

/-- The packing check of F1: its samples in arrival order. -/
theorem test_pack_F1 :
    pack (Vector.ofFn (fun i => [2, 3, 6, 19, 20, 33, 36, 38].contains i.val)) = 0x320018004A := by decide

/-- R191's and R192's examples: 27.5 degrees Fahrenheit, 297.15 kelvin. -/
theorem test_scales :
    temperatureIn .fahrenheit 0xFFFFFFFFFFFFFFE7 = 275 / 10 ∧ temperatureIn .kelvin 240 = 29715 / 100 := by
  have h1 : (0xFFFFFFFFFFFFFFE7 : BitVec 64).toInt = -25 := by decide
  have h2 : (240 : BitVec 64).toInt = 240 := by decide
  simp only [temperatureIn, celsius, toFahrenheit, toKelvin, h1, h2]
  norm_num

/-! ### Witnesses: encoding, steps and commands -/

theorem witness_DecodeAndEncodeAgree :
    (Instr.reserved 5#3).wellFormed = true ∧ decodeBytes [0x0A#8, 0xFF#8] = .ok (.reserved 2#3, [0xFF#8]) := ⟨rfl, rfl⟩

theorem witness_StepRunsTheDecodedCommand :
    (inPhase .v11 .idle 0 0 (command 0x7)).ports.rst = false ∧ (inPhase .v11 .idle 0 0 (command 0x7)).ports.cmdValid = true ∧
    decodeWord (inPhase .v11 .idle 0 0 (command 0x7)).ports.cmdOp = .getstat ∧ Instr.getstat.wellFormed = true := by decide

theorem witness_PresentedWordRunsNext : Instr.read.wellFormed = true ∧ (Instr.reserved 7#3).wellFormed = true := ⟨rfl, rfl⟩

theorem witness_TickWithoutCommandOnlySequences :
    (inPhase .v11 .bitSettle 39 4 (lineAt true)).ports.rst = false ∧
    (inPhase .v11 .bitSettle 39 4 (lineAt true)).ports.cmdValid = false := by decide

theorem witness_ReadWhileBusyIsDropped : (inPhase .v11 .startSettle 0 0 (command 0x1)).phase ≠ .idle := by decide

/-- L2, and the first tick of the window. -/
theorem witness_RateLimitedReadAnswersFromCache :
    ((afterF1 3021671 (command 0x1)).phase = .idle ∧ InsideWindow (afterF1 3021671 (command 0x1))) ∧
    ((afterF1 21672 (command 0x1)).phase = .idle ∧ InsideWindow (afterF1 21672 (command 0x1))) :=
  ⟨⟨rfl, rfl, by decide⟩, rfl, rfl, by decide⟩

/-- L3 and L4. -/
theorem witness_ReadStartsATransaction :
    ((afterF1 3021672 (command 0x1)).phase = .idle ∧ ¬ InsideWindow (afterF1 3021672 (command 0x1))) ∧
    ((base .v11).phase = .idle ∧ ¬ InsideWindow (base .v11)) :=
  ⟨⟨rfl, fun h => absurd h.2 (by decide)⟩, rfl, fun h => absurd h.1 (by decide)⟩

/-! ### Witnesses: one tick of the sequencer -/

/-- A tick without reset leads from `s` to its next state. -/
def TickMet (s : State) : Prop := Ticks s (nextOf s)

theorem ticks_inPhase (v : Variant) (p : Phase) (t : BitVec 32) (i : Fin 40) (pin : Level) :
    Ticks (inPhase v p t i (lineAt pin)) (nextOf (inPhase v p t i (lineAt pin))) := ⟨rfl, rfl⟩

/-- Each row, in its last tick and, where it has one, in the tick before. -/
theorem witness_TimedPhasesCountOrMoveOn :
    (Ticks (inPhase .v11 .startSettle 0 0 (lineAt true)) (nextOf (inPhase .v11 .startSettle 0 0 (lineAt true))) ∧
      TimedRow (base .v11).cfg .startSettle 1 .startLow) ∧
    (Ticks (inPhase .v22 .startLow 1999 0 (lineAt true)) (nextOf (inPhase .v22 .startLow 1999 0 (lineAt true))) ∧
      Ticks (inPhase .v22 .startLow 1998 0 (lineAt true)) (nextOf (inPhase .v22 .startLow 1998 0 (lineAt true))) ∧
      TimedRow (base .v22).cfg .startLow 2000 .startRelease) ∧
    (Ticks (inPhase .v11 .startRelease 29 0 (lineAt true)) (nextOf (inPhase .v11 .startRelease 29 0 (lineAt true))) ∧
      Ticks (inPhase .v11 .startRelease 28 0 (lineAt true)) (nextOf (inPhase .v11 .startRelease 28 0 (lineAt true))) ∧
      TimedRow (base .v11).cfg .startRelease 30 .waitResp) :=
  ⟨⟨ticks_inPhase .., .inl ⟨rfl, rfl, rfl⟩⟩, ⟨ticks_inPhase .., ticks_inPhase .., .inr (.inl ⟨rfl, rfl, rfl⟩)⟩,
    ticks_inPhase .., ticks_inPhase .., .inr (.inr ⟨rfl, rfl, rfl⟩)⟩

/-- The hypotheses of the three clauses of a waiting row, each at the budget or one below it. -/
def WaitClausesMet (p : Phase) (level : Level) (budget : Nat) (e : ResultCode) : Prop :=
  WaitRow p level budget e ∧
  TickMet (inPhase .v11 p (BitVec.ofNat 32 budget) 39 (lineAt (!level))) ∧
  TickMet (inPhase .v11 p (BitVec.ofNat 32 budget) 39 (lineAt level)) ∧
  TickMet (inPhase .v11 p (BitVec.ofNat 32 (budget - 1)) 39 (lineAt level)) ∧
  (inPhase .v11 p (BitVec.ofNat 32 budget) 39 (lineAt (!level))).pinSample ≠ level ∧
  (inPhase .v11 p (BitVec.ofNat 32 budget) 39 (lineAt level)).pinSample = level ∧
  (inPhase .v11 p (BitVec.ofNat 32 budget) 39 (lineAt level)).tmr.toNat = budget ∧
  (inPhase .v11 p (BitVec.ofNat 32 (budget - 1)) 39 (lineAt level)).tmr.toNat ≠ budget

theorem witness_WaitingPhasesFollowAwaitLevel :
    WaitClausesMet .waitResp true 40 .notDetected ∧ WaitClausesMet .waitAckLow false 100 .syncTimeout ∧
    WaitClausesMet .waitAckHigh true 100 .tooFastReads ∧ WaitClausesMet .bitWaitLow false 75 .dataTimeout ∧
    WaitClausesMet .bitWaitHigh true 50 .dataTimeout := by
  refine ⟨⟨by simp [WaitRow], ?_⟩, ⟨by simp [WaitRow], ?_⟩, ⟨by simp [WaitRow], ?_⟩, ⟨by simp [WaitRow], ?_⟩,
    ⟨by simp [WaitRow], ?_⟩⟩ <;>
  exact ⟨ticks_inPhase .., ticks_inPhase .., ticks_inPhase .., by decide, by decide, by decide, by decide⟩

/-- The sampling tick, and a tick before it. -/
theorem witness_BitSettleSamplesOnItsLastTick :
    TickMet (inPhase .v11 .bitSettle 39 7 (lineAt true)) ∧ TickMet (inPhase .v11 .bitSettle 38 7 (lineAt true)) ∧
    (inPhase .v11 .bitSettle 39 7 (lineAt true)).tmr.toNat = 39 ∧ (inPhase .v11 .bitSettle 38 7 (lineAt true)).tmr.toNat ≠ 39 :=
  ⟨ticks_inPhase .., ticks_inPhase .., by decide, by decide⟩

/-- F1 and F2. -/
theorem witness_CheckCommitsOrRaises :
    TickMet (checking .v11 0x320018004A (lineAt true)) ∧ TickMet (checking .v11 0x320018004B (lineAt true)) ∧
    ChecksumHolds (pack (checking .v11 0x320018004A (lineAt true)).bits) ∧
    ¬ ChecksumHolds (pack (checking .v11 0x320018004B (lineAt true)).bits) := by
  refine ⟨⟨rfl, rfl⟩, ⟨rfl, rfl⟩, ?_, ?_⟩ <;> (unfold ChecksumHolds; decide)

/-- With another command, and with the word of `READ` but no command. -/
theorem witness_IdleDoesNothing :
    TickMet (inPhase .v11 .idle 0 0 (command 0x0)) ∧ ¬ ReadPresented (inPhase .v11 .idle 0 0 (command 0x0)).ports ∧
    TickMet (inPhase .v11 .idle 0 0 { command 0x1 with cmdValid := false }) ∧
    ¬ ReadPresented (inPhase .v11 .idle 0 0 { command 0x1 with cmdValid := false }).ports :=
  ⟨⟨rfl, rfl⟩, fun h => absurd h.2 (by decide), ⟨rfl, rfl⟩, fun h => absurd h.1 (by decide)⟩

/-- `NOW` at its last value before it wraps. -/
theorem witness_EveryTickCountsNow : TickMet (afterF1 0xFFFFFFFFFFFFFFFF (lineAt false)) := ⟨rfl, rfl⟩

theorem witness_PinOutputsFollowThePhase : step (inPhase .v11 .startLow 3 0 (lineAt true)) = .next (nextOf (inPhase .v11 .startLow 3 0 (lineAt true))) := rfl

/-- The loop back from bit 38. -/
theorem witness_PhaseOnlyMovesForward : TickMet (inPhase .v11 .bitWaitHigh 0 38 (lineAt false)) := ticks_inPhase ..

/-- Each of the three ends, and a tick that is none. -/
theorem witness_DoneComesExactlyAtAnEnd :
    (TickMet (afterF1 3021671 (command 0x1)) ∧ (nextOf (afterF1 3021671 (command 0x1))).out.doneValid = true) ∧
    (TickMet (checking .v11 0x320018004B (lineAt true)) ∧ (nextOf (checking .v11 0x320018004B (lineAt true))).out.doneValid = true) ∧
    (TickMet (inPhase .v11 .waitResp 40 0 (lineAt true)) ∧ (nextOf (inPhase .v11 .waitResp 40 0 (lineAt true))).out.doneValid = true) ∧
    (TickMet (inPhase .v11 .waitResp 39 0 (lineAt true)) ∧ (nextOf (inPhase .v11 .waitResp 39 0 (lineAt true))).out.doneValid = false) := by
  refine ⟨⟨⟨rfl, rfl⟩, by decide⟩, ⟨⟨rfl, rfl⟩, by decide⟩, ⟨⟨rfl, rfl⟩, by decide⟩,
    ⟨⟨rfl, rfl⟩, by decide⟩⟩

/-- The hypotheses of FailuresHaveTheirCauseAndEffect. -/
def EndsInFailure (s : State) : Prop :=
  TickMet s ∧ s.phase ≠ .idle ∧ (nextOf s).out.doneValid = true ∧ (nextOf s).out.doneCode ≠ 0

/-- The six failures. -/
theorem witness_FailuresHaveTheirCauseAndEffect :
    EndsInFailure (inPhase .v11 .waitResp 40 0 (lineAt true)) ∧
    EndsInFailure (inPhase .v11 .waitAckLow 100 0 (lineAt false)) ∧
    EndsInFailure (inPhase .v11 .waitAckHigh 100 0 (lineAt true)) ∧
    EndsInFailure (inPhase .v11 .bitWaitLow 75 0 (lineAt false)) ∧
    EndsInFailure (inPhase .v11 .bitWaitHigh 50 39 (lineAt true)) ∧
    EndsInFailure (checking .v11 0x320018004B (lineAt true)) := by
  refine ⟨?_, ?_, ?_, ?_, ?_, ?_⟩ <;> exact ⟨⟨rfl, rfl⟩, by decide, by decide, by decide⟩

theorem witness_CacheIsWrittenByTheCommitAlone :
    TickMet (checking .v11 0x320018004A (lineAt true)) ∧ TickMet (afterF1 30000 (lineAt true)) ∧
    (afterF1 30000 (lineAt true)).lastOkValid = true := ⟨⟨rfl, rfl⟩, ⟨rfl, rfl⟩, rfl⟩

/-- An end outside `IDLE`; a rate-limited `READ` in `IDLE`; a tick in a transaction without an end. -/
theorem witness_LastResultIsWrittenAtTheEndAlone :
    (TickMet (inPhase .v11 .waitResp 40 0 (lineAt true)) ∧ (nextOf (inPhase .v11 .waitResp 40 0 (lineAt true))).out.doneValid = true) ∧
    (TickMet (afterF1 30000 (command 0x1)) ∧ (afterF1 30000 (command 0x1)).phase = .idle) ∧
    (TickMet (inPhase .v11 .waitResp 39 0 (lineAt true)) ∧ (nextOf (inPhase .v11 .waitResp 39 0 (lineAt true))).out.doneValid = false) :=
  ⟨⟨⟨rfl, rfl⟩, by decide⟩, ⟨⟨rfl, rfl⟩, rfl⟩, ⟨⟨rfl, rfl⟩, by decide⟩⟩

theorem witness_AtMostOneCellIsWritten :
    (TickMet (inPhase .v11 .bitSettle 39 7 (lineAt true)) ∧ (nextOf (inPhase .v11 .bitSettle 39 7 (lineAt true))).phase ≠ .idle) ∧
    (inPhase .v11 .bitSettle 39 7 (lineAt true)).phase ≠ .idle ∧ (6 : Fin 40) ≠ (inPhase .v11 .bitSettle 39 7 (lineAt true)).bitIdx :=
  ⟨⟨⟨rfl, rfl⟩, by decide⟩, by decide, by decide⟩

/-- The settle's ticks next to the sampling one, and a phase that never samples. -/
theorem witness_LineIsIgnoredOutsideSampling :
    ((inPhase .v11 .bitSettle 38 7 (lineAt true)).phase = .bitSettle ∧
      (inPhase .v11 .bitSettle 38 7 (lineAt true)).tmr.toNat ≠ 39) ∧
    (inPhase .v11 .startRelease 29 0 (lineAt true)).phase = .startRelease := by decide

theorem witness_CommandsCannotDisturbATransaction :
    (inPhase .v11 .startLow 5 0 (lineAt true)).phase ≠ .idle ∧ (command 0x1).rst = false ∧ (lineAt true).rst = false ∧
    (command 0x1).pinI = (lineAt true).pinI := by decide

theorem witness_ResetTickClearsEverything :
    (inPhase .v11 .startLow 500 0 { command 0x1 with rst := true }).ports.rst = true := rfl

/-! ### Witnesses: invariants -/

/-- Idle after a success. -/
theorem inv_afterF4 : MachineInv (afterF4 (command 0x1)) where
  cfgLegal := by decide
  idleCleared _ := ⟨rfl, rfl, rfl, rfl⟩
  tmrBounded := by decide
  indexBeforeBits _ := rfl
  indexAtCheck h := absurd h (by decide)
  cellsCleared _ _ := by simp [afterF4, base, State.reset]
  frameChecked := by unfold ChecksumHolds; decide
  nothingCached h := absurd h (by decide)
  readingDecoded := by show _ ∧ _; decide
  resultInUse := by decide

/-- In the last tick of the wait that follows bit 0. -/
theorem inv_bitWaitHigh :
    MachineInv { inPhase .v11 .bitWaitHigh 50 0 (lineAt true) with bits := (Vector.replicate 40 false).set 0 true } where
  cfgLegal := by decide
  idleCleared h := absurd h (by decide)
  tmrBounded := by decide
  indexBeforeBits _ := rfl
  indexAtCheck h := absurd h (by decide)
  cellsCleared := by unfold bitsTaken; decide
  frameChecked := by unfold ChecksumHolds; decide
  nothingCached _ := ⟨rfl, rfl, rfl, rfl⟩
  readingDecoded := by show _ ∧ _; decide
  resultInUse := by decide

theorem witness_EveryStepKeepsTheInvariant :
    MachineInv (afterF4 (command 0x1)) ∧ step (afterF4 (command 0x1)) = .next (nextOf (afterF4 (command 0x1))) := ⟨inv_afterF4, rfl⟩

theorem witness_ReservedCodesNeverAppear :
    MachineInv { inPhase .v11 .bitWaitHigh 50 0 (lineAt true) with bits := (Vector.replicate 40 false).set 0 true } ∧
    step { inPhase .v11 .bitWaitHigh 50 0 (lineAt true) with bits := (Vector.replicate 40 false).set 0 true } = .next (nextOf { inPhase .v11 .bitWaitHigh 50 0 (lineAt true) with bits := (Vector.replicate 40 false).set 0 true }) :=
  ⟨inv_bitWaitHigh, rfl⟩

theorem witness_TemperatureIsNeverTheLeastNumber : MachineInv (afterF4 (command 0x1)) := inv_afterF4

theorem window_afterF1 (now : BitVec 64) (inp : Inputs) : WindowHolds (afterF1 now inp) := fun _ => ⟨fun h => absurd rfl h, fun _ => rfl⟩

/-- The last tick inside the window, and the last elapsed time for which the statement speaks. -/
theorem witness_EveryStepKeepsTheRateLimitWindow :
    (WindowHolds (afterF1 3021671 (command 0x1)) ∧ (afterF1 3021671 (command 0x1)).elapsed ≠ BitVec.allOnes 64 ∧
      step (afterF1 3021671 (command 0x1)) = .next (nextOf (afterF1 3021671 (command 0x1)))) ∧
    (WindowHolds (afterF1 21670 (lineAt true)) ∧ (afterF1 21670 (lineAt true)).elapsed ≠ BitVec.allOnes 64 ∧
      step (afterF1 21670 (lineAt true)) = .next (nextOf (afterF1 21670 (lineAt true)))) :=
  ⟨⟨window_afterF1 _ _, by decide, rfl⟩, window_afterF1 _ _, by decide, rfl⟩

theorem witness_RateLimitedReadReportsSuccess :
    WindowHolds (afterF1 3021671 (command 0x1)) ∧ (afterF1 3021671 (command 0x1)).phase = .idle ∧
    InsideWindow (afterF1 3021671 (command 0x1)) := ⟨window_afterF1 _ _, rfl, rfl, by decide⟩

/-! ### Witnesses: runs of ticks -/

/-- A state with a line listed for the coming ticks, no commands and no reset. -/
def onLine (s : State) (levels : List Level) : State := { s with inputs := levels.map lineAt }

theorem onLine_noReset (s : State) (levels : List Level) (n : Nat) (hn : n ≤ levels.length) : NoReset (onLine s levels) n :=
  noReset_listed (l := levels.map lineAt) rfl n (by simpa using hn) (by
    intro i hi
    obtain ⟨b, -, rfl⟩ := List.mem_map.1 hi
    rfl)

theorem onLine_pin (s : State) (levels : List Level) (k : Nat) (h : k < levels.length) :
    (portsAt (onLine s levels) k).pinI = levels[k] := by
  rw [portsAt_listed (l := levels.map lineAt) rfl k (by simpa using h), List.getElem_map]; rfl

/-- The hypotheses of WaitTimesOutAtItsBudget. -/
def TimeoutMet (p : Phase) (level : Level) (budget : Nat) (e : ResultCode) (s : State) : Prop :=
  s.phase = p ∧ WaitRow p level budget e ∧ s.tmr = 0 ∧ NoReset s (budget + 1) ∧ ∀ k, k ≤ budget → (portsAt s k).pinI = level

theorem timeoutMet (p : Phase) (level : Level) (budget : Nat) (e : ResultCode) (h : WaitRow p level budget e) :
    TimeoutMet p level budget e (onLine (inPhase .v11 p 0 0 (lineAt true)) (List.replicate (budget + 1) level)) :=
  ⟨rfl, h, rfl, onLine_noReset _ _ _ (by simp), fun k hk => by
    rw [onLine_pin _ _ k (by simp; omega), List.getElem_replicate]⟩

theorem witness_WaitTimesOutAtItsBudget :
    (∃ s, TimeoutMet .waitResp true 40 .notDetected s) ∧ (∃ s, TimeoutMet .waitAckLow false 100 .syncTimeout s) ∧
    (∃ s, TimeoutMet .waitAckHigh true 100 .tooFastReads s) ∧ (∃ s, TimeoutMet .bitWaitLow false 75 .dataTimeout s) ∧
    (∃ s, TimeoutMet .bitWaitHigh true 50 .dataTimeout s) := by
  refine ⟨⟨_, timeoutMet _ _ _ _ ?_⟩, ⟨_, timeoutMet _ _ _ _ ?_⟩, ⟨_, timeoutMet _ _ _ _ ?_⟩, ⟨_, timeoutMet _ _ _ _ ?_⟩,
    ⟨_, timeoutMet _ _ _ _ ?_⟩⟩ <;> simp [WaitRow]

/-- The hypotheses of WaitEndsAtTheFirstOtherLevel in `WAIT_RESP`. -/
def EndMet (j : Nat) (s : State) : Prop :=
  WaitRow s.phase true 40 .notDetected ∧ s.tmr = 0 ∧ j ≤ 40 ∧ NoReset s (j + 1) ∧ (∀ k, k < j → (portsAt s k).pinI = true) ∧
    (portsAt s j).pinI ≠ true

theorem endMet (j : Nat) (h : j ≤ 40) :
    EndMet j (onLine (inPhase .v11 .waitResp 0 0 (lineAt true)) (List.replicate j true ++ [false])) :=
  ⟨.inl ⟨rfl, rfl, rfl, rfl⟩, rfl, h, onLine_noReset _ _ _ (by simp), fun k hk => by
    rw [onLine_pin _ _ k (by simp; omega), List.getElem_append_left (by simpa using hk), List.getElem_replicate], by
    rw [onLine_pin _ _ j (by simp)]; simp⟩

/-- A1, A2, A3: the first offset, one inside, and the last. -/
theorem witness_WaitEndsAtTheFirstOtherLevel : (∃ s, EndMet 0 s) ∧ (∃ s, EndMet 10 s) ∧ (∃ s, EndMet 40 s) :=
  ⟨⟨_, endMet 0 (by decide)⟩, ⟨_, endMet 10 (by decide)⟩, ⟨_, endMet 40 (by decide)⟩⟩

/-- The hypotheses of DelayHoldsExactlyItsDuration. -/
def DelayMet (duration : Nat) (next : Phase) (s : State) : Prop :=
  TimedRow s.cfg s.phase duration next ∧ s.tmr = 0 ∧ 1 ≤ duration ∧ duration < 2 ^ 32 ∧ NoReset s duration

/-- A settle of one tick, the longest settle, and the release. -/
theorem witness_DelayHoldsExactlyItsDuration :
    (∃ s, DelayMet 1 .startLow s) ∧ (∃ s, DelayMet 4294967295 .startLow s) ∧ (∃ s, DelayMet 30 .waitResp s) := by
  refine ⟨⟨onLine (inPhase .v11 .startSettle 0 0 (lineAt true)) (List.replicate 1 true), .inl ⟨rfl, rfl, rfl⟩, rfl, by decide,
      by decide, onLine_noReset _ _ _ (by simp)⟩,
    ⟨onLine { inPhase .v11 .startSettle 0 0 (lineAt true) with cfg := Params.defaults .v11 4294967295 }
      (List.replicate 4294967295 true), .inl ⟨rfl, rfl, rfl⟩, rfl, by decide, by decide, onLine_noReset _ _ _ ?_⟩,
    ⟨onLine (inPhase .v11 .startRelease 0 0 (lineAt true)) (List.replicate 30 true), .inr (.inr ⟨rfl, rfl, rfl⟩), rfl, by decide,
      by decide, onLine_noReset _ _ _ (by simp)⟩⟩
  rw [List.length_replicate]

theorem witness_BitIsSampledInTheFortiethTick :
    (onLine (inPhase .v11 .bitSettle 0 39 (lineAt true)) (List.replicate 40 true)).phase = .bitSettle ∧
    (onLine (inPhase .v11 .bitSettle 0 39 (lineAt true)) (List.replicate 40 true)).tmr = 0 ∧
    NoReset (onLine (inPhase .v11 .bitSettle 0 39 (lineAt true)) (List.replicate 40 true)) 40 :=
  ⟨rfl, rfl, onLine_noReset _ _ _ (by simp)⟩

/-- The hypotheses of PulseWidthDecidesTheBit. -/
def PulseMet (w : Nat) (s : State) : Prop :=
  s.phase = .bitWaitLow ∧ 1 ≤ w ∧ NoReset s 92 ∧ ∀ k, k < 92 → (portsAt s k).pinI = decide (k < w)

theorem pulseMet (w : Nat) (h : 1 ≤ w) :
    PulseMet w (onLine (inPhase .v11 .bitWaitLow 49 0 (lineAt true)) ((List.range 92).map (fun k => decide (k < w)))) :=
  ⟨rfl, h, onLine_noReset _ _ _ (by simp), fun k hk => by rw [onLine_pin _ _ k (by simpa using hk)]; simp⟩

/-- B1, B3, B5, B6, B7. -/
theorem witness_PulseWidthDecidesTheBit :
    (∃ s, PulseMet 1 s) ∧ (∃ s, PulseMet 40 s) ∧ (∃ s, PulseMet 41 s) ∧ (∃ s, PulseMet 91 s) ∧ (∃ s, PulseMet 92 s) :=
  ⟨⟨_, pulseMet 1 (by decide)⟩, ⟨_, pulseMet 40 (by decide)⟩, ⟨_, pulseMet 41 (by decide)⟩, ⟨_, pulseMet 91 (by decide)⟩,
    ⟨_, pulseMet 92 (by decide)⟩⟩

/-- The F4 state outside its window, with a `READ` and then a line of `n` high ticks. -/
def readThenHigh (n : Nat) : State :=
  { afterF4 (lineAt true) with now := 3005827#64, inputs := command 0x1 :: List.replicate n (lineAt true) }

theorem readThenHigh_noReset (n : Nat) : NoReset (readThenHigh n) (n + 1) :=
  noReset_listed (l := command 0x1 :: List.replicate n (lineAt true)) rfl _ (by simp) (by
    intro i hi
    rcases List.mem_cons.1 hi with rfl | hi
    · rfl
    · rw [(List.mem_replicate.1 hi).2]; rfl)

theorem readThenHigh_outside (n : Nat) : ¬ InsideWindow (readThenHigh n) := fun h => by
  have h2 : (3005827#64 - 5827#64).toNat < 3000000 := h.2
  exact absurd h2 (by decide)

theorem inv_readThenHigh (n : Nat) : MachineInv (readThenHigh n) :=
  have h := inv_afterF4
  ⟨h.cfgLegal, h.idleCleared, h.tmrBounded, h.indexBeforeBits, h.indexAtCheck, h.cellsCleared, h.frameChecked, h.nothingCached,
    h.readingDecoded, h.resultInUse⟩

theorem witness_EveryTransactionEndsInOneDone :
    MachineInv (readThenHigh 8955) ∧ (readThenHigh 8955).phase = .idle ∧ ReadPresented (readThenHigh 8955).ports ∧
    ¬ InsideWindow (readThenHigh 8955) ∧ NoReset (readThenHigh 8955) (transactionBound (readThenHigh 8955).cfg + 1) :=
  ⟨inv_readThenHigh _, rfl, ⟨rfl, rfl⟩, readThenHigh_outside _, readThenHigh_noReset _⟩

/-- The samples from a `READ` on with no sensor, `V22`, a settle of one tick: the line follows the block's drive until the release
(D2), then stays high (S1). -/
def absentSensor : List Inputs :=
  (command 0x1 :: lineAt true :: List.replicate 2000 (lineAt false)) ++ List.replicate 71 (lineAt true)

/-- The F4 state outside its window, with these samples. -/
def readWithoutSensor : State := { readThenHigh 0 with inputs := absentSensor }

theorem absentSensor_length : absentSensor.length = 2073 := by
  simp only [absentSensor, List.length_append, List.length_cons, List.length_replicate]

theorem witness_AbsentSensorIsReportedOnTime :
    readWithoutSensor.cfg.wellFormed = true ∧ readWithoutSensor.phase = .idle ∧ ReadPresented readWithoutSensor.ports ∧
    ¬ InsideWindow readWithoutSensor ∧ NoReset readWithoutSensor (1 + 2000 + 72) ∧
    (∀ k, 1 + 2000 + 31 ≤ k → k ≤ 1 + 2000 + 71 → (portsAt readWithoutSensor k).pinI = true) ∧
    readWithoutSensor.cfg.tSettle = 1 ∧ startLowTicks readWithoutSensor.cfg = 2000 := by
  refine ⟨by decide, rfl, ⟨rfl, rfl⟩, readThenHigh_outside 0,
    noReset_listed (l := absentSensor) rfl _ (by rw [absentSensor_length]) ?_, ?_, rfl, rfl⟩
  · intro i hi
    have hi : i = command 0x1 ∨ i = lineAt true ∨ i = lineAt false := by
      simp only [absentSensor, List.mem_append, List.mem_cons, List.mem_replicate] at hi
      tauto
    rcases hi with rfl | rfl | rfl <;> rfl
  · intro k h1 h2
    have hk : k < absentSensor.length := by rw [absentSensor_length]; omega
    rw [portsAt_listed (l := absentSensor) rfl k hk]
    simp only [absentSensor]
    rw [List.getElem_append_right (by simp only [List.length_cons, List.length_replicate]; omega), List.getElem_replicate]
    rfl

/-- Two quiet ticks. -/
theorem witness_CacheStandsBetweenSuccesses :
    NoReset (onLine (afterF1 30000 (lineAt true)) [true, true]) 2 ∧
    run 2 (onLine (afterF1 30000 (lineAt true)) [true, true]) =
      .next (nextOf (nextOf (onLine (afterF1 30000 (lineAt true)) [true, true]))) ∧
    (∀ m u, m < 2 → run (m + 1) (onLine (afterF1 30000 (lineAt true)) [true, true]) = .next u → ¬ Done u 0) := by
  refine ⟨onLine_noReset _ _ _ (by decide), rfl, ?_⟩
  intro m u hm h hd
  have hm : m = 0 ∨ m = 1 := by omega
  rcases hm with rfl | rfl <;> (cases h; exact absurd hd.1 (by decide))

/-- The hypotheses of DeliveredFrameIsDecoded. -/
def DeliveryMet (s : State) (f : BitVec 40) : Prop :=
  s.phase = .waitResp ∧ s.tmr = 0 ∧ s.bitIdx = 0 ∧ NoReset s (sensorWave f).length ∧
    ∀ k (h : k < (sensorWave f).length), (portsAt s k).pinI = (sensorWave f)[k]

theorem deliveryMet (f : BitVec 40) : DeliveryMet (onLine (inPhase .v22 .waitResp 0 0 (lineAt true)) (sensorWave f)) f :=
  ⟨rfl, rfl, rfl, onLine_noReset _ _ _ (Nat.le_refl _), fun k h => onLine_pin _ _ k h⟩

/-- F4, whose checksum holds, and F9, whose does not. -/
theorem witness_DeliveredFrameIsDecoded :
    ((∃ s, DeliveryMet s 0x028C801927#40) ∧ ChecksumHolds 0x028C801927#40) ∧
    ((∃ s, DeliveryMet s 0xFFFFFFFFFF#40) ∧ ¬ ChecksumHolds 0xFFFFFFFFFF#40) := by
  refine ⟨⟨⟨_, deliveryMet _⟩, ?_⟩, ⟨_, deliveryMet _⟩, ?_⟩ <;> (unfold ChecksumHolds; decide)

end Sys2Proof.Tests
end

/-! SUPPORT. Proofs of the scope family: what a tick without reset is, the frame's verdict and decode over numbers, and the machine
invariant of R41 with its step lemma. -/

namespace Sys2Proof.Machine

open Sys2Proof.Safety

section TicksWithoutReset

/-- A tick without reset is the tick of one effect, and an effect that starts a transaction does so in `IDLE` (R170, R171). -/
theorem eq_tick_of_ticks {s t : State} (h : Ticks s t) :
    ∃ e : CommandEffect, t = tick s e ∧ (e.starts = true → s.phase = .idle) := by
  obtain ⟨hrst, hstep⟩ := h
  obtain ⟨hr, -⟩ | ⟨-, -, hs⟩ | ⟨-, -, hs⟩ := step_cases s
  · simp [hrst] at hr
  · obtain rfl : _ = t := by simpa [hs] using hstep
    exact ⟨_, rfl, fun hstart => (commandEffect_starts hstart).2.1⟩
  · obtain rfl : _ = t := by simpa [hs] using hstep
    exact ⟨_, rfl, by simp [noCommand]⟩

/-- The end of a tick passes the tick on, from any state that agrees with `s` on what the sequencer never writes. -/
theorem tickPassed_finishTick {s u : State} (h : UntouchedBySequencer s u) (o : Outputs) : TickPassed s (finishTick u o) := by
  obtain ⟨hnow, hcfg, -, hinputs, hfree⟩ := h
  exact ⟨by simp [hnow], by simp [hcfg], by simp [State.nextPorts_inputs, hinputs],
    by simpa using State.nextPorts_freeIndex_congr hinputs hfree⟩

/-- Every tick counts `NOW`, leaves the configuration and uses up one sample (R32, R12). -/
theorem tickPassed_tick (s : State) (e : CommandEffect) : TickPassed s (tick s e) := by
  have hseq := sequencer_untouched s
  refine tickPassed_finishTick ?_ _
  split
  · simpa [UntouchedBySequencer] using hseq
  · exact hseq

/-- Settles O25: a tick without reset is the tick of one effect. -/
theorem everyTickCountsNow : Obligations.EveryTickCountsNow := by
  intro s t h
  obtain ⟨e, rfl, -⟩ := eq_tick_of_ticks h
  exact tickPassed_tick s e

/-- Settles O5: with `rst` = 0 and `cmd_valid` = 1 the dispatch of `step` reaches the command's arm. -/
theorem stepRunsTheDecodedCommand : Obligations.StepRunsTheDecodedCommand := by
  intro s i hrst hvalid hdecode _
  simp [step, hrst, hvalid, hdecode]

end TicksWithoutReset

section SequencerOutcomes

/-- The actions that one tick of the sequencer can take from `s`, by what becomes of the transaction (R182, R201). -/
inductive SequencerOutcome (s : State) : Action → Prop
  /-- A waiting phase reaches its budget (R111). -/
  | timedOut {level : Level} {budget : Nat} {e : ResultCode} (hrow : WaitRow s.phase level budget e)
      (hpin : s.pinSample = level) (htmr : s.tmr.toNat = budget) : SequencerOutcome s (raise e s)
  /-- The `CHECK` tick of a frame whose checksum fails (R159). -/
  | rejected (hphase : s.phase = .check) (hframe : frameValid (pack s.bits) = false) :
      SequencerOutcome s (raise .badChecksum s)
  /-- The `CHECK` tick of a frame whose checksum holds (R158). -/
  | committed (hphase : s.phase = .check) (hframe : frameValid (pack s.bits) = true) :
      SequencerOutcome s (commit (pack s.bits) s)
  /-- Every other tick leaves the session registers as they were. -/
  | goesOn {t : State} (hphase : s.phase ≠ .check) (hsession : SameSession s t) : SequencerOutcome s (continueWith t)

variable {s : State}

theorem awaitLevel_outcome {level : Level} {budget : Nat} {e : ResultCode} {next : State → State}
    (hrow : WaitRow s.phase level budget e) (hnext : SameSession s (next (s.setTmr 0#32))) :
    SequencerOutcome s (awaitLevel level budget e next s) := by
  have hphase : s.phase ≠ .check := by rintro h; simp [WaitRow, h] at hrow
  obtain ⟨-, h⟩ | ⟨hpin, htmr, h⟩ | ⟨-, -, h⟩ := awaitLevel_cases s level budget e next <;> rw [h]
  · exact .goesOn hphase hnext
  · exact .timedOut hrow hpin htmr
  · exact .goesOn hphase (by simp [SameSession, SameCache])

theorem delay_outcome (hphase : s.phase ≠ .check) (duration : Nat) (next : Phase) :
    SequencerOutcome s (delay duration next s) := by
  obtain ⟨-, h⟩ | ⟨-, h⟩ := delay_cases s duration next <;> rw [h] <;>
    exact .goesOn hphase (by simp [SameSession, SameCache])

/-- What one tick of the sequencer can do, said once. -/
theorem sequencer_outcome (s : State) : SequencerOutcome s (sequencer s) := by
  cases h : s.phase
  case idle => rw [sequencer_idle h]; exact .goesOn (by simp [h]) (by simp [SameSession, SameCache])
  case startSettle => rw [sequencer_startSettle h]; exact delay_outcome (by simp [h]) _ _
  case startLow => rw [sequencer_startLow h]; exact delay_outcome (by simp [h]) _ _
  case startRelease => rw [sequencer_startRelease h]; exact delay_outcome (by simp [h]) _ _
  case waitResp =>
    rw [sequencer_waitResp h]; exact awaitLevel_outcome (by simp [WaitRow, h]) (by simp [SameSession, SameCache])
  case waitAckLow =>
    rw [sequencer_waitAckLow h]; exact awaitLevel_outcome (by simp [WaitRow, h]) (by simp [SameSession, SameCache])
  case waitAckHigh =>
    rw [sequencer_waitAckHigh h]; exact awaitLevel_outcome (by simp [WaitRow, h]) (by simp [SameSession, SameCache])
  case bitWaitLow =>
    rw [sequencer_bitWaitLow h]; exact awaitLevel_outcome (by simp [WaitRow, h]) (by simp [SameSession, SameCache])
  case bitSettle =>
    rw [sequencer_bitSettle h]
    obtain ⟨-, h'⟩ | ⟨-, h'⟩ := settleAndSample_cases s <;> rw [h'] <;>
      exact .goesOn (by simp [h]) (by simp [SameSession, SameCache])
  case bitWaitHigh =>
    rw [sequencer_bitWaitHigh h]; exact awaitLevel_outcome (by simp [WaitRow, h]) (by simp [SameSession, SameCache])
  case check =>
    rw [sequencer_check h]
    obtain ⟨hframe, h'⟩ | ⟨hframe, h'⟩ := checkFrame_cases s <;> rw [h']
    · exact .committed h hframe
    · exact .rejected h hframe

end SequencerOutcomes

section FrameOverNumbers

variable (f : BitVec 40)

theorem byteOf_lt (n : Nat) : byteOf f n < 256 := (f.extractLsb' (32 - 8 * n) 8).isLt

@[simp] theorem toNat_frameByte (n : Fin 5) : (frameByte f n).toNat = byteOf f n.val := rfl

/-- The verdict of `Verify` is the checksum rule over numbers (R151, R152). -/
theorem frameValid_iff_checksumHolds : frameValid f = true ↔ ChecksumHolds f := by
  rw [frameValid, beq_iff_eq, ← BitVec.toNat_inj]
  simp [frameSum, ChecksumHolds, BitVec.toNat_add]

/-- The masked magnitude over numbers (R156). -/
theorem temperatureMagnitude_eq : temperatureMagnitude f = byteOf f 2 % 128 * 256 + byteOf f 3 := by
  have hmask : (frameByte f 2 &&& 0x7F#8).toNat = byteOf f 2 % 128 := by
    rw [BitVec.toNat_and]
    exact Nat.and_two_pow_sub_one_eq_mod _ 7
  rw [temperatureMagnitude, hmask]; rfl

/-- The sign bit of a `V22` temperature over numbers (R156). -/
theorem frameByte_sign : (frameByte f 2).getLsbD 7 = decide (128 ≤ byteOf f 2) :=
  BitVec.msb_eq_decide (frameByte f 2)

/-- A number of 16 bits in two's complement is read back (R29). -/
theorem toInt_ofInt_of_bounds {x : Int} (hlow : -32768 ≤ x) (hhigh : x < 32768) : (BitVec.ofInt 16 x).toInt = x := by
  rw [BitVec.toInt_ofInt]
  exact Int.bmod_eq_of_le (by omega) (by omega)

/-! The decoded values of each variant over numbers (R155, R156). -/

theorem humidityTenths_v11 : humidityTenths .v11 f = byteOf f 0 * 10 := rfl
theorem humidityTenths_v22 : humidityTenths .v22 f = byteOf f 0 * 256 + byteOf f 1 := rfl
theorem temperatureTenths_v11 : temperatureTenths .v11 f = byteOf f 2 * 10 := rfl
theorem temperatureTenths_v22 :
    temperatureTenths .v22 f =
      if 128 ≤ byteOf f 2 then -((byteOf f 2 % 128 * 256 + byteOf f 3 : Nat) : Int)
      else (byteOf f 2 % 128 * 256 + byteOf f 3 : Nat) := by
  simp only [temperatureTenths, temperatureMagnitude_eq, frameByte_sign, decide_eq_true_eq]

/-- The decoded values fit their registers (R153, R155, R156). -/
theorem readingOf_decoded (v : Variant) :
    ReadingOf v f (BitVec.ofNat 16 (humidityTenths v f)) (BitVec.ofInt 16 (temperatureTenths v f)) := by
  have h0 := byteOf_lt f 0
  have h1 := byteOf_lt f 1
  have h2 := byteOf_lt f 2
  have h3 := byteOf_lt f 3
  cases v with
  | v11 =>
    rw [humidityTenths_v11, temperatureTenths_v11]
    exact ⟨Nat.mod_eq_of_lt (by omega), toInt_ofInt_of_bounds (by omega) (by omega)⟩
  | v22 =>
    rw [humidityTenths_v22, temperatureTenths_v22]
    exact ⟨Nat.mod_eq_of_lt (by omega), toInt_ofInt_of_bounds (by split <;> omega) (by split <;> omega)⟩

end FrameOverNumbers

section SessionInvariant

/-- The clauses of MachineInv about the session registers (R41 c to f). -/
structure SessionInv (s : State) : Prop where
  frameChecked : ChecksumHolds s.lastFrame
  nothingCached : s.lastOkValid = false → s.lastFrame = 0 ∧ s.humX10 = 0 ∧ s.tempX10 = 0 ∧ s.lastOkTime = 0
  readingDecoded : ReadingOf s.cfg.variant s.lastFrame s.humX10 s.tempX10
  resultInUse : s.lastResult ≠ .busBusy ∧ s.lastResult ≠ .ackTooLong

variable {s t : State}

/-- The clauses speak of the strap, the cache and `LAST_RESULT` alone. -/
theorem SessionInv.of_sameCache (hs : SessionInv s) (hcfg : t.cfg = s.cfg) (hcache : SameCache s t)
    (hresult : t.lastResult ≠ .busBusy ∧ t.lastResult ≠ .ackTooLong) : SessionInv t := by
  obtain ⟨hframe, hhum, htemp, htime, hvalid⟩ := hcache
  exact ⟨hframe ▸ hs.frameChecked, by simpa only [hframe, hhum, htemp, htime, hvalid] using hs.nothingCached,
    by simpa only [hcfg, hframe, hhum, htemp] using hs.readingDecoded, hresult⟩

theorem SessionInv.of_sameSession (hs : SessionInv s) (hcfg : t.cfg = s.cfg) (h : SameSession s t) : SessionInv t :=
  hs.of_sameCache hcfg h.2 (h.1.symm ▸ hs.resultInUse)

/-- `raise E` with a code that is in use keeps the clauses (R204, R203). -/
theorem SessionInv.raise (hs : SessionInv s) {e : ResultCode} (he : e ≠ .busBusy ∧ e ≠ .ackTooLong) :
    SessionInv (raise e s).state :=
  hs.of_sameCache rfl ⟨rfl, rfl, rfl, rfl, rfl⟩ he

/-- A commit of a valid frame establishes the clauses from any state (R158). -/
theorem sessionInv_commit {f : BitVec 40} (hf : frameValid f = true) (s : State) : SessionInv (commit f s).state where
  frameChecked := (frameValid_iff_checksumHolds f).1 hf
  nothingCached h := by simp at h
  readingDecoded := readingOf_decoded f s.cfg.variant
  resultInUse := by simp

/-- The cleared cache meets the clauses under either strap: the zero frame is valid and decodes to zero (R40, R41 d). -/
theorem sessionInv_resetTick (s : State) : SessionInv (resetTick s) where
  frameChecked := (by unfold ChecksumHolds; decide : ChecksumHolds 0#40)
  nothingCached _ := ⟨rfl, rfl, rfl, rfl⟩
  readingDecoded := by
    have h : ∀ v, ReadingOf v 0#40 0#16 0#16 := fun v => by cases v <;> exact ⟨rfl, rfl⟩
    exact h s.cfg.variant
  resultInUse := by simp [resetTick, State.reset]

/-- The failure codes of the waiting phases are in use (R201, R203). -/
theorem resultInUse_of_waitRow {p : Phase} {level : Level} {budget : Nat} {e : ResultCode} (h : WaitRow p level budget e) :
    e ≠ .busBusy ∧ e ≠ .ackTooLong := by
  obtain ⟨-, -, -, rfl⟩ | ⟨-, -, -, rfl⟩ | ⟨-, -, -, rfl⟩ | ⟨-, -, -, rfl⟩ | ⟨-, -, -, rfl⟩ := h <;> simp

theorem SessionInv.sequencer (hs : SessionInv s) : SessionInv (sequencer s).state := by
  have hcfg := (sequencer_untouched s).2.1
  generalize ha : Machine.sequencer s = a at *
  cases ha ▸ sequencer_outcome s with
  | timedOut hrow _ _ => exact hs.raise (resultInUse_of_waitRow hrow)
  | rejected _ _ => exact hs.raise (by simp)
  | committed _ hframe => exact sessionInv_commit hframe s
  | goesOn _ hsession => exact hs.of_sameSession hcfg hsession

end SessionInvariant

section WorkingInvariant

/-- The clauses of MachineInv about the working registers (R41 b, R23 to R25, R132). -/
structure WorkingInv (s : State) : Prop where
  idleCleared : s.phase = .idle → AtRest s
  tmrBounded : s.tmr.toNat < phaseTicks s.cfg s.phase
  indexBeforeBits : s.phase.code.toNat < 7 → s.bitIdx = 0
  indexAtCheck : s.phase = .check → s.bitIdx = 39
  cellsCleared : ∀ i : Fin 40, bitsTaken s ≤ i.val → s.bits[i.val] = false

variable {s t : State}

/-- Every phase lasts at least one tick under a legal configuration (R11). -/
theorem phaseTicks_pos {c : Params} (h : c.wellFormed = true) (p : Phase) : 0 < phaseTicks c p := by
  simp only [Params.wellFormed, Config.legalTicks, Bool.and_eq_true, decide_eq_true_eq] at h
  obtain ⟨⟨⟨⟨hsettle, -⟩, ⟨hv11, -⟩⟩, ⟨hv22, -⟩⟩, -⟩ := h
  cases p
  case startSettle => exact hsettle
  case startLow => rw [phaseTicks, startLowTicks]; split <;> omega
  all_goals exact Nat.zero_lt_succ _

theorem workingInv_of_atRest (h : AtRest t) : WorkingInv t := by
  obtain ⟨hphase, htmr, hidx, hbits⟩ := h
  exact ⟨fun _ => ⟨hphase, htmr, hidx, hbits⟩, by simp [hphase, htmr, phaseTicks], fun _ => hidx,
    by simp [hphase], by simp [hbits]⟩

/-- The working registers after the `READ` that starts a transaction (R121). -/
theorem workingInv_startTransaction (hcfg : s.cfg.wellFormed = true) : WorkingInv s.startTransaction where
  idleCleared h := by simp at h
  tmrBounded := phaseTicks_pos hcfg .startSettle
  indexBeforeBits _ := rfl
  indexAtCheck h := by simp at h
  cellsCleared := by simp

/-- A tick that counts inside a phase keeps the clauses (R111, R118, R129). -/
theorem WorkingInv.count (hs : WorkingInv s) (hphase : s.phase ≠ .idle)
    (htmr : s.tmr.toNat + 1 < phaseTicks s.cfg s.phase) : WorkingInv (s.setTmr (s.tmr + 1#32)) where
  idleCleared h := absurd h hphase
  tmrBounded := by
    have hle : (s.tmr + 1#32).toNat ≤ s.tmr.toNat + 1 := by rw [BitVec.toNat_add]; exact Nat.mod_le _ _
    exact Nat.lt_of_le_of_lt hle htmr
  indexBeforeBits := hs.indexBeforeBits
  indexAtCheck := hs.indexAtCheck
  cellsCleared := hs.cellsCleared

/-- A tick that enters a phase of the transaction keeps the clauses: `TMR` starts at 0, and the cells not yet received are among
those that were not yet received before, and unchanged. -/
theorem WorkingInv.enter (hs : WorkingInv s) (hcfg : t.cfg.wellFormed = true) (hphase : t.phase ≠ .idle) (htmr : t.tmr = 0#32)
    (hbefore : t.phase.code.toNat < 7 → t.bitIdx = 0) (hcheck : t.phase = .check → t.bitIdx = 39)
    (htaken : bitsTaken s ≤ bitsTaken t) (hbits : ∀ i : Fin 40, bitsTaken t ≤ i.val → t.bits[i.val] = s.bits[i.val]) :
    WorkingInv t where
  idleCleared h := absurd h hphase
  tmrBounded := by rw [htmr]; exact phaseTicks_pos hcfg _
  indexBeforeBits := hbefore
  indexAtCheck := hcheck
  cellsCleared i hi := (hbits i hi).trans (hs.cellsCleared i (htaken.trans hi))

/-- Up to `BIT_WAIT_LOW` the cells taken are those below the current one (R129). -/
theorem bitsTaken_of_code_le (h : s.phase.code.toNat ≤ 7) : bitsTaken s = s.bitIdx.val := by
  cases hp : s.phase <;> simp [hp, Phase.code] at h <;> simp [bitsTaken, hp]

theorem le_bitsTaken (s : State) : s.bitIdx.val ≤ bitsTaken s := by
  cases h : s.phase <;> simp [bitsTaken, h]

/-- Up to `BIT_SETTLE` the phases follow each other in the order of R22, with the same index and no new bit. -/
theorem WorkingInv.enterPhase (hs : WorkingInv s) (hcfg : s.cfg.wellFormed = true) {p : Phase}
    (hnext : p.code.toNat = s.phase.code.toNat + 1) (hlast : p.code.toNat ≤ 8) : WorkingInv ((s.setTmr 0#32).setPhase p) := by
  have hidle : p ≠ .idle := by rintro rfl; simp [Phase.code] at hnext
  have hcheck : p ≠ .check := by rintro rfl; simp [Phase.code] at hlast
  refine hs.enter hcfg hidle rfl (fun h => hs.indexBeforeBits ?_) (fun h => absurd h hcheck) ?_ (fun _ _ => rfl)
  · rw [State.setPhase_phase] at h
    omega
  · rw [bitsTaken_of_code_le (by omega)]
    exact le_bitsTaken ((s.setTmr 0#32).setPhase p)

/-- A timed phase lasts its duration (R118), and the next phase follows it in the order of R22. -/
theorem timedRow_order {c : Params} {p next : Phase} {duration : Nat} (h : TimedRow c p duration next) :
    p ≠ .idle ∧ phaseTicks c p = duration ∧ next.code.toNat = p.code.toNat + 1 ∧ next.code.toNat ≤ 8 := by
  obtain ⟨rfl, rfl, rfl⟩ | ⟨rfl, rfl, rfl⟩ | ⟨rfl, rfl, rfl⟩ := h <;> exact ⟨by simp, rfl, rfl, by decide⟩

/-- A waiting phase of budget `M` lasts at most `M + 1` ticks (R112). -/
theorem waitRow_ticks {p : Phase} {level : Level} {budget : Nat} {e : ResultCode} (h : WaitRow p level budget e) (c : Params) :
    p ≠ .idle ∧ phaseTicks c p = budget + 1 := by
  obtain ⟨rfl, -, rfl, -⟩ | ⟨rfl, -, rfl, -⟩ | ⟨rfl, -, rfl, -⟩ | ⟨rfl, -, rfl, -⟩ | ⟨rfl, -, rfl, -⟩ := h <;>
    exact ⟨by simp, rfl⟩

theorem WorkingInv.delay (hs : WorkingInv s) (hcfg : s.cfg.wellFormed = true) {duration : Nat} {next : Phase}
    (hrow : TimedRow s.cfg s.phase duration next) : WorkingInv (delay duration next s).state := by
  obtain ⟨hidle, hticks, hnext, hlast⟩ := timedRow_order hrow
  obtain ⟨-, h⟩ | ⟨hlt, h⟩ := delay_cases s duration next <;> rw [h]
  · exact hs.enterPhase hcfg hnext hlast
  · exact hs.count hidle (hticks ▸ hlt)

/-- A waiting phase keeps the clauses when its continuation does; below its budget it has a tick left to count. -/
theorem WorkingInv.awaitLevel (hs : WorkingInv s) {level : Level} {budget : Nat} {e : ResultCode} {next : State → State}
    (hrow : WaitRow s.phase level budget e) (hnext : WorkingInv (next (s.setTmr 0#32))) :
    WorkingInv (awaitLevel level budget e next s).state := by
  obtain ⟨hidle, hticks⟩ := waitRow_ticks hrow s.cfg
  obtain ⟨-, h⟩ | ⟨-, -, h⟩ | ⟨-, hne, h⟩ := awaitLevel_cases s level budget e next <;> rw [h]
  · exact hnext
  · exact workingInv_of_atRest ⟨rfl, rfl, rfl, rfl⟩
  · have hlt := hs.tmrBounded
    exact hs.count hidle (by omega)

/-- The 40th tick of `BIT_SETTLE` writes the cell of the current bit, which from then on counts as taken (R129). -/
theorem WorkingInv.settleAndSample (hs : WorkingInv s) (hcfg : s.cfg.wellFormed = true) (hphase : s.phase = .bitSettle) :
    WorkingInv (settleAndSample s).state := by
  obtain ⟨-, h⟩ | ⟨hne, h⟩ := settleAndSample_cases s <;> rw [h]
  · refine hs.enter hcfg (by simp) rfl (by simp [Phase.code]) (by simp) (by simp [bitsTaken, hphase]) fun i hi => ?_
    have hlt : s.bitIdx.val < i.val := by simpa [bitsTaken] using hi
    exact Vector.getElem_set_ne s.bitIdx.isLt i.isLt (Nat.ne_of_lt hlt)
  · have hlt := hs.tmrBounded
    refine hs.count (by simp [hphase]) ?_
    simp only [hphase, phaseTicks] at hlt ⊢
    omega

/-- The end of a bit keeps the cells: the bit just taken counts as taken under the next index, or in `CHECK` (R130). -/
theorem WorkingInv.nextBit (hs : WorkingInv s) (hcfg : s.cfg.wellFormed = true) (hphase : s.phase = .bitWaitHigh) :
    WorkingInv (nextBit (s.setTmr 0#32)) := by
  obtain ⟨hlt, h⟩ | ⟨hlast, h⟩ := nextBit_cases (s.setTmr 0#32) <;> rw [h]
  · exact hs.enter hcfg (by simp) rfl (by simp [Phase.code]) (by simp) (by simp [bitsTaken, hphase]) (fun _ _ => rfl)
  · exact hs.enter hcfg (by simp) rfl (by simp [Phase.code]) (fun _ => hlast) (by simp [bitsTaken, hphase]) (fun _ _ => rfl)

theorem WorkingInv.sequencer (hs : WorkingInv s) (hcfg : s.cfg.wellFormed = true) : WorkingInv (sequencer s).state := by
  cases h : s.phase
  case idle => rw [sequencer_idle h]; exact hs
  case startSettle => rw [sequencer_startSettle h]; exact hs.delay hcfg (.inl ⟨h, rfl, rfl⟩)
  case startLow => rw [sequencer_startLow h]; exact hs.delay hcfg (.inr (.inl ⟨h, rfl, rfl⟩))
  case startRelease => rw [sequencer_startRelease h]; exact hs.delay hcfg (.inr (.inr ⟨h, rfl, rfl⟩))
  case waitResp =>
    rw [sequencer_waitResp h]
    exact hs.awaitLevel (by simp [WaitRow, h]) (hs.enterPhase hcfg (by rw [h]; rfl) (by decide))
  case waitAckLow =>
    rw [sequencer_waitAckLow h]
    exact hs.awaitLevel (by simp [WaitRow, h]) (hs.enterPhase hcfg (by rw [h]; rfl) (by decide))
  case waitAckHigh =>
    rw [sequencer_waitAckHigh h]
    exact hs.awaitLevel (by simp [WaitRow, h]) (hs.enterPhase hcfg (by rw [h]; rfl) (by decide))
  case bitWaitLow =>
    rw [sequencer_bitWaitLow h]
    exact hs.awaitLevel (by simp [WaitRow, h]) (hs.enterPhase hcfg (by rw [h]; rfl) (by decide))
  case bitSettle => rw [sequencer_bitSettle h]; exact hs.settleAndSample hcfg h
  case bitWaitHigh =>
    rw [sequencer_bitWaitHigh h]; exact hs.awaitLevel (by simp [WaitRow, h]) (hs.nextBit hcfg h)
  case check =>
    rw [sequencer_check h]
    obtain ⟨-, h'⟩ | ⟨-, h'⟩ := checkFrame_cases s <;> rw [h'] <;> exact workingInv_of_atRest ⟨rfl, rfl, rfl, rfl⟩

end WorkingInvariant

section MachineInvariant

variable {s : State}

/-- MachineInv is the legal configuration with the clauses of the working and of the session registers. -/
theorem machineInv_iff : MachineInv s ↔ s.cfg.wellFormed = true ∧ WorkingInv s ∧ SessionInv s :=
  ⟨fun h => ⟨h.cfgLegal, ⟨h.idleCleared, h.tmrBounded, h.indexBeforeBits, h.indexAtCheck, h.cellsCleared⟩,
      ⟨h.frameChecked, h.nothingCached, h.readingDecoded, h.resultInUse⟩⟩,
    fun ⟨hcfg, hw, hs⟩ => ⟨hcfg, hw.idleCleared, hw.tmrBounded, hw.indexBeforeBits, hw.indexAtCheck, hw.cellsCleared,
      hs.frameChecked, hs.nothingCached, hs.readingDecoded, hs.resultInUse⟩⟩

/-- The end of a tick writes nothing that the invariant speaks of. -/
theorem machineInv_finishTick (h : MachineInv s) (o : Outputs) : MachineInv (finishTick s o) where
  cfgLegal := by simpa using h.cfgLegal
  idleCleared := by simpa [AtRest] using h.idleCleared
  tmrBounded := by simpa using h.tmrBounded
  indexBeforeBits := by simpa using h.indexBeforeBits
  indexAtCheck := by simpa using h.indexAtCheck
  cellsCleared := by simpa [bitsTaken] using h.cellsCleared
  frameChecked := by simpa using h.frameChecked
  nothingCached := by simpa using h.nothingCached
  readingDecoded := by simpa using h.readingDecoded
  resultInUse := by simpa using h.resultInUse

theorem machineInv_sequencer (h : MachineInv s) : MachineInv (sequencer s).state := by
  obtain ⟨hcfg, hw, hs⟩ := machineInv_iff.1 h
  obtain ⟨-, hsame, -⟩ := sequencer_untouched s
  exact machineInv_iff.2 ⟨hsame ▸ hcfg, hw.sequencer hcfg, hs.sequencer⟩

theorem machineInv_startTransaction (h : MachineInv s) : MachineInv s.startTransaction := by
  obtain ⟨hcfg, -, hs⟩ := machineInv_iff.1 h
  exact machineInv_iff.2 ⟨hcfg, workingInv_startTransaction hcfg, hs.of_sameSession rfl ⟨rfl, rfl, rfl, rfl, rfl, rfl⟩⟩

theorem machineInv_resetTick (h : MachineInv s) : MachineInv (resetTick s) :=
  machineInv_iff.2 ⟨h.cfgLegal, workingInv_of_atRest ⟨rfl, rfl, rfl, rfl⟩, sessionInv_resetTick s⟩

/-- A tick keeps the invariant under any effect that starts a transaction in `IDLE` alone. -/
theorem machineInv_tick (h : MachineInv s) {e : CommandEffect} (he : e.starts = true → s.phase = .idle) :
    MachineInv (tick s e) := by
  cases hstarts : e.starts
  case false => rw [tick_of_not_starts s e hstarts]; exact machineInv_finishTick (machineInv_sequencer h) _
  case true =>
    rw [tick_of_starts s e (he hstarts) hstarts]; exact machineInv_finishTick (machineInv_startTransaction h) _

/-- Settles O41: a step is a reset tick or a tick without reset, and each keeps the invariant. -/
theorem everyStepKeepsTheInvariant : Obligations.EveryStepKeepsTheInvariant := by
  intro s t h hstep
  cases hrst : s.ports.rst
  case false =>
    obtain ⟨e, rfl, he⟩ := eq_tick_of_ticks ⟨hrst, hstep⟩
    exact machineInv_tick h he
  case true =>
    obtain rfl : resetTick s = t := by simpa [step, hrst] using hstep
    exact machineInv_resetTick h

end MachineInvariant

end Sys2Proof.Machine

/-! SUPPORT. Proofs of the state family: the reset state, the outputs and the phase of every step, what writes the cache and
`LAST_RESULT`, and the rate-limit window of R41 g with its step lemma. -/

namespace Sys2Proof.Machine

open Sys2Proof.Safety

section EffectsOfATick

/-- What the command of a tick can do beyond its answer (R171, R182): a transaction starts in `IDLE` outside the window alone, and a
`done` is that of a rate-limited `READ`. -/
structure LegalEffect (s : State) (e : CommandEffect) : Prop where
  starts_only : e.starts = true → s.phase = .idle ∧ ¬ InsideWindow s
  done_only : ∀ r, e.done = some r → s.phase = .idle ∧ InsideWindow s ∧ r = s.lastResult

variable {s t : State} {e : CommandEffect}

/-- An effect that starts nothing and reports no `done` is legal in every state. -/
theorem legalEffect_of_silent (hstarts : e.starts = false) (hdone : e.done = none) : LegalEffect s e :=
  ⟨by simp [hstarts], by simp [hdone]⟩

theorem legalEffect_readEffect (s : State) : LegalEffect s (readEffect s) := by
  obtain ⟨-, h⟩ | ⟨hidle, hin, h⟩ | ⟨hidle, hout, h⟩ := readEffect_cases s <;> rw [h]
  · exact legalEffect_of_silent rfl rfl
  · exact ⟨by simp, fun r hr => ⟨hidle, hin, (Option.some.inj hr).symm⟩⟩
  · exact ⟨fun _ => ⟨hidle, hout⟩, by simp⟩

theorem legalEffect_commandEffect (i : Instr) (s : State) : LegalEffect s (commandEffect i s) := by
  cases i
  case read => exact legalEffect_readEffect s
  all_goals exact legalEffect_of_silent rfl rfl

/-- A tick without reset is the tick of one legal effect. -/
theorem eq_tick_of_legalEffect (h : Ticks s t) : ∃ e, LegalEffect s e ∧ t = tick s e := by
  obtain ⟨hrst, hstep⟩ := h
  obtain ⟨hr, -⟩ | ⟨-, -, hs⟩ | ⟨-, -, hs⟩ := step_cases s
  · simp [hrst] at hr
  · obtain rfl : _ = t := by simpa [hs] using hstep
    exact ⟨_, legalEffect_commandEffect _ s, rfl⟩
  · obtain rfl : _ = t := by simpa [hs] using hstep
    exact ⟨_, legalEffect_of_silent rfl rfl, rfl⟩

/-- Outside `IDLE` the `done` of a tick is the sequencer's. -/
theorem LegalEffect.done_of_busy (he : LegalEffect s e) (hbusy : s.phase ≠ .idle) : e.done = none :=
  Option.eq_none_iff_forall_ne_some.2 fun r hr => hbusy (he.done_only r hr).1

/-- A tick starts a transaction from `IDLE` outside the window, or ends with the registers of the sequencer's action. -/
theorem LegalEffect.tick_cases (he : LegalEffect s e) :
    (s.phase = .idle ∧ ¬ InsideWindow s ∧ ∃ o, tick s e = finishTick s.startTransaction o) ∨
    ∃ o, tick s e = finishTick (sequencer s).state o := by
  cases hstarts : e.starts
  case false => exact .inr ⟨_, tick_of_not_starts s e hstarts⟩
  case true =>
    obtain ⟨hidle, hout⟩ := he.starts_only hstarts
    exact .inl ⟨hidle, hout, _, tick_of_starts s e hidle hstarts⟩

/-- A step is a reset tick or the tick of one legal effect. -/
theorem step_next_cases (h : step s = .next t) : t = resetTick s ∨ ∃ e, LegalEffect s e ∧ t = tick s e := by
  cases hrst : s.ports.rst
  case false => exact .inr (eq_tick_of_legalEffect ⟨hrst, h⟩)
  case true =>
    obtain rfl : resetTick s = t := by simpa [step, hrst] using h
    exact .inl rfl

end EffectsOfATick

section OutputsOfAStep

variable (s : State) (e : CommandEffect) (d : Option ResultCode)

@[simp] theorem outputsOf_pinOe : (outputsOf s e d).pinOe = s.phase.drivesLine := rfl
@[simp] theorem outputsOf_pinO : (outputsOf s e d).pinO = s.phase.drivenLevel := rfl
@[simp] theorem outputsOf_pinPu : (outputsOf s e d).pinPu = true := rfl
@[simp] theorem outputsOf_doneValid : (outputsOf s e d).doneValid = d.isSome := rfl
@[simp] theorem outputsOf_doneCode : (outputsOf s e d).doneCode = (d.map ResultCode.code).getD 0#3 := rfl
@[simp] theorem outputsOf_busy : (outputsOf s e d).busy = s.busy := rfl

/-- The three phases of the start pulse drive the line (R33). -/
theorem Phase.drivesLine_eq (p : Phase) : p.drivesLine = decide (p = .startSettle ∨ p = .startLow ∨ p = .startRelease) := by
  cases p <;> rfl

/-- Only `START_LOW` drives a low (R33). -/
theorem Phase.drivenLevel_eq (p : Phase) : p.drivenLevel = decide (p ≠ .startLow) := by cases p <;> rfl

theorem State.busy_eq : s.busy = decide (s.phase ≠ .idle) := by cases h : s.phase <;> simp [State.busy, h]

/-- The outputs of every step, reset or not, are computed from the state at its start (R33, R36; log 18). -/
theorem step_out {s t : State} (h : step s = .next t) : ∃ e d, t.out = outputsOf s e d := by
  obtain rfl | ⟨e, -, rfl⟩ := step_next_cases h
  · exact ⟨noCommand, none, rfl⟩
  · exact ⟨e, _, tick_out s e⟩

/-- Settles O26, from `step_out` and the output functions of the phase. -/
theorem pinOutputsFollowThePhase : Obligations.PinOutputsFollowThePhase := by
  intro s t h
  obtain ⟨e, d, hout⟩ := step_out h
  rw [hout, outputsOf_pinOe, outputsOf_pinO, outputsOf_pinPu, outputsOf_busy]
  exact ⟨s.phase.drivesLine_eq, s.phase.drivenLevel_eq, rfl, s.busy_eq⟩

end OutputsOfAStep

section PhaseOrder

/-- The phase after an action of the sequencer, in the terms of R22. -/
def PhaseMoved (s : State) (a : Action) : Prop :=
  a.state.phase = s.phase ∨ a.state.phase.code.toNat = s.phase.code.toNat + 1 ∨
  (s.phase = .bitWaitHigh ∧ a.state.phase = .bitWaitLow ∧ a.state.bitIdx.val = s.bitIdx.val + 1) ∨
  (a.state.phase = .idle ∧ a.done.isSome = true)

variable {s : State}

theorem phaseMoved_of_same {t : State} (h : t.phase = s.phase) : PhaseMoved s (continueWith t) := .inl h

theorem phaseMoved_of_next {t : State} (h : t.phase.code.toNat = s.phase.code.toNat + 1) : PhaseMoved s (continueWith t) :=
  .inr (.inl h)

theorem phaseMoved_raise (e : ResultCode) : PhaseMoved s (raise e s) := .inr (.inr (.inr ⟨rfl, rfl⟩))

theorem phaseMoved_commit (f : BitVec 40) : PhaseMoved s (commit f s) := .inr (.inr (.inr ⟨rfl, rfl⟩))

theorem phaseMoved_delay {next : Phase} (hnext : next.code.toNat = s.phase.code.toNat + 1) (duration : Nat) :
    PhaseMoved s (delay duration next s) := by
  obtain ⟨-, h⟩ | ⟨-, h⟩ := delay_cases s duration next <;> rw [h]
  · exact phaseMoved_of_next hnext
  · exact phaseMoved_of_same rfl

theorem phaseMoved_awaitLevel {next : State → State} (hnext : PhaseMoved s (continueWith (next (s.setTmr 0#32))))
    (level : Level) (budget : Nat) (e : ResultCode) : PhaseMoved s (awaitLevel level budget e next s) := by
  obtain ⟨-, h⟩ | ⟨-, -, h⟩ | ⟨-, -, h⟩ := awaitLevel_cases s level budget e next <;> rw [h]
  · exact hnext
  · exact phaseMoved_raise e
  · exact phaseMoved_of_same rfl

/-- The bit loop: back to `BIT_WAIT_LOW` under the next index, or on to `CHECK` after bit 39 (R130). -/
theorem phaseMoved_nextBit (hphase : s.phase = .bitWaitHigh) : PhaseMoved s (continueWith (nextBit (s.setTmr 0#32))) := by
  obtain ⟨hlt, h⟩ | ⟨-, h⟩ := nextBit_cases (s.setTmr 0#32) <;> rw [h]
  · exact .inr (.inr (.inl ⟨hphase, rfl, rfl⟩))
  · exact phaseMoved_of_next (by rw [hphase]; rfl)

/-- Every row of R134's table moves the phase as R22 says. -/
theorem phaseMoved_sequencer (s : State) : PhaseMoved s (sequencer s) := by
  cases h : s.phase
  case idle => rw [sequencer_idle h]; exact phaseMoved_of_same rfl
  case startSettle => rw [sequencer_startSettle h]; exact phaseMoved_delay (by rw [h]; rfl) _
  case startLow => rw [sequencer_startLow h]; exact phaseMoved_delay (by rw [h]; rfl) _
  case startRelease => rw [sequencer_startRelease h]; exact phaseMoved_delay (by rw [h]; rfl) _
  case waitResp =>
    rw [sequencer_waitResp h]; exact phaseMoved_awaitLevel (phaseMoved_of_next (by rw [h]; rfl)) _ _ _
  case waitAckLow =>
    rw [sequencer_waitAckLow h]; exact phaseMoved_awaitLevel (phaseMoved_of_next (by rw [h]; rfl)) _ _ _
  case waitAckHigh =>
    rw [sequencer_waitAckHigh h]; exact phaseMoved_awaitLevel (phaseMoved_of_next (by rw [h]; rfl)) _ _ _
  case bitWaitLow =>
    rw [sequencer_bitWaitLow h]; exact phaseMoved_awaitLevel (phaseMoved_of_next (by rw [h]; rfl)) _ _ _
  case bitSettle =>
    rw [sequencer_bitSettle h]
    obtain ⟨-, h'⟩ | ⟨-, h'⟩ := settleAndSample_cases s <;> rw [h']
    · exact phaseMoved_of_next (by rw [h]; rfl)
    · exact phaseMoved_of_same rfl
  case bitWaitHigh => rw [sequencer_bitWaitHigh h]; exact phaseMoved_awaitLevel (phaseMoved_nextBit h) _ _ _
  case check =>
    rw [sequencer_check h]
    obtain ⟨-, h'⟩ | ⟨-, h'⟩ := checkFrame_cases s <;> rw [h']
    · exact phaseMoved_commit _
    · exact phaseMoved_raise _

/-- Settles O27: a tick moves the phase as the sequencer does, or starts a transaction from `IDLE`. -/
theorem phaseOnlyMovesForward : Obligations.PhaseOnlyMovesForward := by
  intro s t h
  obtain ⟨e, he, rfl⟩ := eq_tick_of_legalEffect h
  have hdone : (tick s e).out.doneValid = ((sequencer s).done <|> e.done).isSome := by simp
  obtain ⟨hidle, -, o, htick⟩ | ⟨o, htick⟩ := he.tick_cases
  · exact .inr (.inl (by rw [htick, hidle]; simp [Phase.code]))
  · obtain hsame | hnext | ⟨hhigh, hlow, hidx⟩ | ⟨hend, hsome⟩ := phaseMoved_sequencer s
    · exact .inl (by simpa [htick] using hsame)
    · exact .inr (.inl (by simpa [htick] using hnext))
    · exact .inr (.inr (.inl ⟨hhigh, by simpa [htick] using hlow, by simpa [htick] using hidx⟩))
    · exact .inr (.inr (.inr ⟨by simpa [htick] using hend, by rw [hdone]; simp [hsome]⟩))

end PhaseOrder

section SessionWrites

variable {s u : State} {e : CommandEffect}

/-- The sequencer reports nothing in `IDLE` (R133). -/
theorem sequencer_done_of_idle (h : s.phase = .idle) : (sequencer s).done = none := by rw [sequencer_idle h]; rfl

/-- The sequencer writes `LAST_RESULT` with the code of its `done`, and only together with one (R26). -/
theorem sequencer_lastResult (s : State) : (sequencer s).state.lastResult = (sequencer s).done.getD s.lastResult := by
  have houtcome := sequencer_outcome s
  generalize sequencer s = a at *
  cases houtcome with
  | timedOut => rfl
  | rejected => rfl
  | committed => rfl
  | goesOn _ hsession => exact hsession.1

/-- No command writes `LAST_RESULT`. -/
theorem LegalEffect.tick_lastResult (he : LegalEffect s e) : (tick s e).lastResult = (sequencer s).done.getD s.lastResult := by
  obtain ⟨hidle, -, o, htick⟩ | ⟨o, htick⟩ := he.tick_cases <;> rw [htick]
  · simp [sequencer_done_of_idle hidle]
  · simpa using sequencer_lastResult s

/-- Settles O31: the `done` that writes `LAST_RESULT` is the sequencer's, and outside `IDLE` there is no other. -/
theorem lastResultIsWrittenAtTheEndAlone : Obligations.LastResultIsWrittenAtTheEndAlone := by
  intro s t h
  obtain ⟨e, he, rfl⟩ := eq_tick_of_legalEffect h
  rw [he.tick_lastResult, tick_out, outputsOf_doneValid, outputsOf_doneCode]
  refine ⟨fun ⟨hbusy, hdone⟩ => ?_, ?_⟩
  · rw [he.done_of_busy hbusy] at hdone ⊢
    cases hseq : (sequencer s).done with
    | none => simp [hseq] at hdone
    | some r => simp
  · rintro (hidle | hnone)
    · simp [sequencer_done_of_idle hidle]
    · cases hseq : (sequencer s).done with
      | none => rfl
      | some r => simp [hseq] at hnone

/-- The end of a tick does not write the cache. -/
theorem sameCache_finishTick (h : SameCache s u) (o : Outputs) : SameCache s (finishTick u o) := by simpa [SameCache] using h

/-- The sequencer leaves the cache, or commits a valid frame in `CHECK` (R158, R160). -/
theorem sequencer_cache (s : State) :
    SameCache s (sequencer s).state ∨
    (s.phase = .check ∧ frameValid (pack s.bits) = true ∧ sequencer s = commit (pack s.bits) s) := by
  have houtcome := sequencer_outcome s
  generalize sequencer s = a at *
  cases houtcome with
  | timedOut => exact .inl ⟨rfl, rfl, rfl, rfl, rfl⟩
  | rejected => exact .inl ⟨rfl, rfl, rfl, rfl, rfl⟩
  | committed hphase hframe => exact .inr ⟨hphase, hframe, rfl⟩
  | goesOn _ hsession => exact .inl hsession.2

/-- A tick leaves the cache, or ends in the commit of a valid frame. -/
theorem LegalEffect.tick_cache (he : LegalEffect s e) :
    SameCache s (tick s e) ∨
    (s.phase = .check ∧ ChecksumHolds (pack s.bits) ∧ Done (tick s e) 0 ∧
      ∃ o, tick s e = finishTick (commit (pack s.bits) s).state o) := by
  obtain ⟨-, -, o, htick⟩ | ⟨o, htick⟩ := he.tick_cases
  · exact .inl (htick ▸ sameCache_finishTick (by simp [SameCache]) o)
  · obtain hsame | ⟨hphase, hframe, hseq⟩ := sequencer_cache s
    · exact .inl (htick ▸ sameCache_finishTick hsame o)
    · have hdone : Done (tick s e) 0 := by simp [Done, hseq, ResultCode.code]
      exact .inr ⟨hphase, (frameValid_iff_checksumHolds _).1 hframe, hdone, o, hseq ▸ htick⟩

/-- Settles O30: the commit is the one write of the cache, and it sets `LAST_OK_VALID`. -/
theorem cacheIsWrittenByTheCommitAlone : Obligations.CacheIsWrittenByTheCommitAlone := by
  intro s t h
  obtain ⟨e, he, rfl⟩ := eq_tick_of_legalEffect h
  obtain hsame | ⟨hphase, hsum, hdone, o, htick⟩ := he.tick_cache
  · have ⟨_, _, _, _, hvalid⟩ := hsame
    exact ⟨.inl hsame, fun hs => hvalid.trans hs⟩
  · exact ⟨.inr ⟨hphase, hsum, hdone⟩, fun _ => by simp [htick]⟩

end SessionWrites

section RateLimitWindow

variable {s t : State}

/-- The time since the last success grows by one in a tick that leaves `LAST_OK_TIME`, as long as it does not wrap (log 19). -/
theorem elapsed_of_tickPassed (htick : TickPassed s t) (htime : t.lastOkTime = s.lastOkTime)
    (hwrap : s.elapsed ≠ BitVec.allOnes 64) : t.elapsed.toNat = s.elapsed.toNat + 1 := by
  have helapsed : t.elapsed = s.elapsed + 1#64 := by
    rw [State.elapsed, htick.1, htime]; exact add_sub_right_comm s.now 1#64 s.lastOkTime
  have hlt : s.elapsed.toNat + 1 < 2 ^ 64 := by
    have := s.elapsed.isLt
    have : s.elapsed.toNat ≠ 2 ^ 64 - 1 := fun h => hwrap (BitVec.eq_of_toNat_eq (by simpa using h))
    omega
  rw [helapsed, BitVec.toNat_add]
  exact Nat.mod_eq_of_lt hlt

/-- A tick that leaves the cache keeps the window: inside it the tick neither leaves `IDLE` nor writes `LAST_RESULT`. -/
theorem windowHolds_of_sameCache (hs : WindowHolds s) (hwrap : s.lastOkValid = true → s.elapsed ≠ BitVec.allOnes 64)
    (htick : TickPassed s t) (hcache : SameCache s t) (hphase : t.phase ≠ .idle → s.phase = .idle → ¬ InsideWindow s)
    (hresult : s.phase = .idle → t.lastResult = s.lastResult) : WindowHolds t := by
  intro htvalid
  obtain ⟨-, -, -, htime, hvalid⟩ := hcache
  have hsvalid : s.lastOkValid = true := hvalid ▸ htvalid
  obtain ⟨hbusy, hsuccess⟩ := hs hsvalid
  have helapsed := elapsed_of_tickPassed htick htime (hwrap hsvalid)
  have hcfg : t.cfg = s.cfg := htick.2.1
  rw [hcfg, helapsed]
  refine ⟨fun htphase => ?_, fun hin => ?_⟩
  · have hover : s.cfg.minPeriod ≤ s.elapsed.toNat := by
      by_cases hidle : s.phase = .idle
      · exact Nat.le_of_not_lt fun hlt => hphase htphase hidle ⟨hsvalid, hlt⟩
      · exact hbusy hidle
    exact Nat.le_succ_of_le hover
  · have hlt : s.elapsed.toNat < s.cfg.minPeriod := Nat.lt_of_succ_lt hin
    have hidle : s.phase = .idle := by
      by_contra hne
      exact Nat.not_lt.2 (hbusy hne) hlt
    rw [hresult hidle, hsuccess hlt]

/-- A tick that ends in a commit leads to `IDLE` with `SUCCESS`, where the window holds whatever the time (R158). -/
theorem windowHolds_of_idle_success (hphase : t.phase = .idle) (hresult : t.lastResult = .success) : WindowHolds t :=
  fun _ => ⟨fun h => absurd hphase h, fun _ => hresult⟩

/-- Without a success there is no window. -/
theorem windowHolds_of_not_valid (h : t.lastOkValid = false) : WindowHolds t := fun hvalid => by simp [h] at hvalid

/-- A tick leaves `IDLE` only outside the window (R172). -/
theorem LegalEffect.tick_leaves_idle {e : CommandEffect} (he : LegalEffect s e) (htphase : (tick s e).phase ≠ .idle)
    (hidle : s.phase = .idle) : ¬ InsideWindow s := by
  obtain ⟨-, hout, -⟩ | ⟨o, htick⟩ := he.tick_cases
  · exact hout
  · rw [htick, sequencer_idle hidle] at htphase
    exact absurd (by simpa using hidle) htphase

/-- Settles O42: a reset tick clears `LAST_OK_VALID`, a commit leads to `IDLE` with `SUCCESS`, and every other tick leaves the cache. -/
theorem everyStepKeepsTheRateLimitWindow : Obligations.EveryStepKeepsTheRateLimitWindow := by
  intro s t hs hwrap hstep
  obtain rfl | ⟨e, he, rfl⟩ := step_next_cases hstep
  · exact windowHolds_of_not_valid rfl
  · obtain hsame | ⟨-, -, -, o, htick⟩ := he.tick_cache
    · exact windowHolds_of_sameCache hs hwrap (tickPassed_tick s e) hsame he.tick_leaves_idle fun hidle => by
        rw [he.tick_lastResult, sequencer_done_of_idle hidle]; rfl
    · exact windowHolds_of_idle_success (by simp [htick]) (by simp [htick])

/-- Settles O45: the `done` of a rate-limited `READ` carries `LAST_RESULT`, which the window keeps at `SUCCESS`. -/
theorem rateLimitedReadReportsSuccess : Obligations.RateLimitedReadReportsSuccess := by
  intro s hs hidle hin
  have ⟨hvalid, hlt⟩ := hin
  obtain ⟨-, hsuccess⟩ := hs hvalid
  refine ⟨_, exec_eq_tick .read s, ?_⟩
  obtain ⟨hbusy, -⟩ | ⟨-, -, hread⟩ | ⟨-, hout, -⟩ := readEffect_cases s
  · exact absurd hidle hbusy
  · simp [Done, commandEffect, hread, sequencer_done_of_idle hidle, hsuccess hlt, ResultCode.code]
  · exact absurd hin hout

end RateLimitWindow

section SignedTemperature

/-- A cached temperature is a byte in tenths, or a sign and a magnitude of 15 bits (R155, R156). -/
theorem readingOf_temperature_bounds {v : Variant} {f : BitVec 40} {hum temp : BitVec 16} (h : ReadingOf v f hum temp) :
    -32767 ≤ temp.toInt ∧ temp.toInt ≤ 32767 := by
  have h2 := byteOf_lt f 2
  have h3 := byteOf_lt f 3
  cases v with
  | v11 =>
    obtain ⟨-, htemp⟩ := h
    omega
  | v22 =>
    obtain ⟨-, htemp⟩ := h
    split at htemp <;> omega

/-- Settles O44: the cached temperature is a decoded one. -/
theorem temperatureIsNeverTheLeastNumber : Obligations.TemperatureIsNeverTheLeastNumber := by
  intro s h
  obtain ⟨hlow, hhigh⟩ := readingOf_temperature_bounds h.readingDecoded
  refine ⟨hlow, hhigh, fun hleast => ?_⟩
  rw [hleast] at hlow
  exact absurd hlow (by decide)

end SignedTemperature

section ResetState

theorem atRest_reset : AtRest State.reset := ⟨rfl, rfl, rfl, rfl⟩

/-- Settles O36, row by row of the reset table. -/
theorem resetStateHoldsTheTabledValues : Obligations.ResetStateHoldsTheTabledValues :=
  ⟨atRest_reset, rfl, rfl, rfl, rfl, rfl, rfl, rfl, rfl, rfl, rfl, rfl, rfl, rfl, rfl, rfl⟩

/-- A duration chosen by `Config.ticksFrom` is legal (R11). -/
theorem legalTicks_ticksFrom {low : Nat} (h : low < Config.tickLimit) (raw : Nat) :
    Config.legalTicks low (Config.ticksFrom low raw) = true := by
  have hmod : raw % (Config.tickLimit - low) < Config.tickLimit - low := Nat.mod_lt _ (Nat.sub_pos_of_lt h)
  rw [Config.legalTicks, Bool.and_eq_true, decide_eq_true_eq, decide_eq_true_eq, Config.ticksFrom]
  omega

/-- The configuration the machine is built with is legal, whatever the opaque constants are (log 3). -/
theorem wellFormed_params : Config.params.wellFormed = true := by
  simp [Params.wellFormed, Config.params, legalTicks_ticksFrom, Config.tickLimit]

/-- The registers of the session after reset are those of a reset tick. -/
theorem sessionInv_reset : SessionInv State.reset :=
  (sessionInv_resetTick State.reset).of_sameSession rfl ⟨rfl, rfl, rfl, rfl, rfl, rfl⟩

/-- Settles O40: a legal configuration, cleared working registers, a cleared session and no success. -/
theorem resetMeetsTheInvariants : Obligations.ResetMeetsTheInvariants :=
  ⟨machineInv_iff.2 ⟨wellFormed_params, workingInv_of_atRest atRest_reset, sessionInv_reset⟩, windowHolds_of_not_valid rfl⟩

end ResetState

end Sys2Proof.Machine

/-! SUPPORT. Proofs of the memory family: the one cell of `BITS` that a tick can write, the ticks that do not look at the line, the
cache over a run, and the word that `withFetchWord` presents. -/

namespace Sys2Proof.Machine

open Sys2Proof.Safety

section BitCells

/-- What an action of the sequencer does to `BITS`: it ends the transaction, or leaves every cell but the one at `BITIDX`. -/
def OtherCellsStand (s : State) (a : Action) : Prop :=
  a.state.phase = .idle ∨ ∀ i : Fin 40, i ≠ s.bitIdx → a.state.bits[i.val] = s.bits[i.val]

variable {s : State}

theorem otherCellsStand_of_bits_eq {a : Action} (h : a.state.bits = s.bits) : OtherCellsStand s a :=
  .inr fun _ _ => by rw [h]

theorem otherCellsStand_delay (duration : Nat) (next : Phase) : OtherCellsStand s (delay duration next s) := by
  obtain ⟨-, h⟩ | ⟨-, h⟩ := delay_cases s duration next <;> rw [h] <;> exact otherCellsStand_of_bits_eq rfl

theorem otherCellsStand_awaitLevel {next : State → State} (hnext : (next (s.setTmr 0#32)).bits = s.bits) (level : Level)
    (budget : Nat) (e : ResultCode) : OtherCellsStand s (awaitLevel level budget e next s) := by
  obtain ⟨-, h⟩ | ⟨-, -, h⟩ | ⟨-, -, h⟩ := awaitLevel_cases s level budget e next <;> rw [h]
  · exact otherCellsStand_of_bits_eq hnext
  · exact .inl rfl
  · exact otherCellsStand_of_bits_eq rfl

/-- The sampling tick writes the cell at `BITIDX` (R129). -/
theorem otherCellsStand_settleAndSample : OtherCellsStand s (settleAndSample s) := by
  obtain ⟨-, h⟩ | ⟨-, h⟩ := settleAndSample_cases s <;> rw [h]
  · exact .inr fun i hi => Vector.getElem_set_ne s.bitIdx.isLt i.isLt fun heq => hi (Fin.ext heq.symm)
  · exact otherCellsStand_of_bits_eq rfl

theorem otherCellsStand_checkFrame : OtherCellsStand s (checkFrame s) := by
  obtain ⟨-, h⟩ | ⟨-, h⟩ := checkFrame_cases s <;> rw [h] <;> exact .inl rfl

/-- Of the rows of R134's table only `BIT_SETTLE` writes a cell without ending the transaction. -/
theorem otherCellsStand_sequencer (s : State) : OtherCellsStand s (sequencer s) := by
  cases h : s.phase
  case idle => rw [sequencer_idle h]; exact otherCellsStand_of_bits_eq rfl
  case startSettle => rw [sequencer_startSettle h]; exact otherCellsStand_delay _ _
  case startLow => rw [sequencer_startLow h]; exact otherCellsStand_delay _ _
  case startRelease => rw [sequencer_startRelease h]; exact otherCellsStand_delay _ _
  case waitResp => rw [sequencer_waitResp h]; exact otherCellsStand_awaitLevel rfl _ _ _
  case waitAckLow => rw [sequencer_waitAckLow h]; exact otherCellsStand_awaitLevel rfl _ _ _
  case waitAckHigh => rw [sequencer_waitAckHigh h]; exact otherCellsStand_awaitLevel rfl _ _ _
  case bitWaitLow => rw [sequencer_bitWaitLow h]; exact otherCellsStand_awaitLevel rfl _ _ _
  case bitSettle => rw [sequencer_bitSettle h]; exact otherCellsStand_settleAndSample
  case bitWaitHigh => rw [sequencer_bitWaitHigh h]; exact otherCellsStand_awaitLevel (nextBit_bits _) _ _ _
  case check => rw [sequencer_check h]; exact otherCellsStand_checkFrame

/-- Settles O32: outside `IDLE` no command starts a transaction, so the cells after the tick are those of the sequencer's action. -/
theorem atMostOneCellIsWritten : Obligations.AtMostOneCellIsWritten := by
  intro s t h hs ht i hi
  obtain ⟨e, he, rfl⟩ := eq_tick_of_legalEffect h
  obtain ⟨hidle, -⟩ | ⟨o, htick⟩ := he.tick_cases
  · exact absurd hidle hs
  · simp only [htick, finishTick_phase, finishTick_bits] at ht ⊢
    obtain hidle | hcells := otherCellsStand_sequencer s
    · exact absurd hidle ht
    · exact hcells i hi

end BitCells

section PortSamples

variable (s : State) (p q : Inputs)

/-! The samples placed on the ports are the ones that the coming tick takes, and only they: the registers, the command's effect and
the outputs do not see them, and the end of the tick uses them up. -/

@[simp] theorem ports_withPorts : (withPorts s p).ports = p := rfl

theorem commandEffect_withPorts (i : Instr) : commandEffect i (withPorts s p) = commandEffect i s := by cases i <;> rfl

theorem outputsOf_withPorts (e : CommandEffect) (d : Option ResultCode) :
    outputsOf (withPorts s p) e d = outputsOf s e d := rfl

theorem startTransaction_withPorts : (withPorts s p).startTransaction = withPorts s.startTransaction p := rfl

theorem finishTick_withPorts (o : Outputs) : finishTick (withPorts s p) o = finishTick (withPorts s q) o := rfl

theorem resetTick_withPorts : resetTick (withPorts s p) = resetTick (withPorts s q) := rfl

/-- The same action, with other samples on the ports of the state it leaves. -/
def Action.withPorts (a : Action) (p : Inputs) : Action := { a with state := Safety.withPorts a.state p }

/-! The operations that do not look at the line commute with placing samples. -/

theorem delay_withPorts (duration : Nat) (next : Phase) :
    delay duration next (withPorts s p) = (delay duration next s).withPorts p := by
  rw [delay, delay, apply_ite (Action.withPorts · p)]; rfl

theorem checkFrame_withPorts : checkFrame (withPorts s p) = (checkFrame s).withPorts p := by
  rw [checkFrame, checkFrame, apply_ite (Action.withPorts · p)]; rfl

variable {s}

theorem settleAndSample_withPorts (h : s.tmr.toNat ≠ 39) :
    settleAndSample (withPorts s p) = (settleAndSample s).withPorts p := by
  obtain ⟨hs, -⟩ | ⟨-, hs⟩ := settleAndSample_cases s
  · exact absurd hs h
  obtain ⟨hp, -⟩ | ⟨-, hp⟩ := settleAndSample_cases (withPorts s p)
  · exact absurd hp h
  rw [hs, hp]; rfl

end PortSamples

section IgnoredLine

/-- The states whose tick takes no line sample (R73). -/
def IgnoresLine (s : State) : Prop :=
  s.phase = .idle ∨ s.phase = .startSettle ∨ s.phase = .startLow ∨ s.phase = .startRelease ∨ s.phase = .check ∨
    (s.phase = .bitSettle ∧ s.tmr.toNat ≠ 39)

variable {s : State}

theorem sequencer_withPorts (h : IgnoresLine s) (p : Inputs) : sequencer (withPorts s p) = (sequencer s).withPorts p := by
  obtain h | h | h | h | h | ⟨h, htmr⟩ := h <;> have hp : (withPorts s p).phase = _ := h
  · rw [sequencer_idle h, sequencer_idle hp]; rfl
  · rw [sequencer_startSettle h, sequencer_startSettle hp]; exact delay_withPorts s p _ _
  · rw [sequencer_startLow h, sequencer_startLow hp]; exact delay_withPorts s p _ _
  · rw [sequencer_startRelease h, sequencer_startRelease hp]; exact delay_withPorts s p _ _
  · rw [sequencer_check h, sequencer_check hp]; exact checkFrame_withPorts s p
  · rw [sequencer_bitSettle h, sequencer_bitSettle hp]; exact settleAndSample_withPorts p htmr

/-- Under one command effect, such a tick does not depend on the samples at all. -/
theorem tick_withPorts (h : IgnoresLine s) (p q : Inputs) (e : CommandEffect) :
    tick (withPorts s p) e = tick (withPorts s q) e := by
  simp only [tick, sequencer_withPorts h, Action.withPorts, outputsOf_withPorts, startTransaction_withPorts]
  cases e.starts <;> exact finishTick_withPorts _ p q _

/-- Settles O33: the two samples choose the same case of the step, and none of its cases depends on the line. -/
theorem lineIsIgnoredOutsideSampling : Obligations.LineIsIgnoredOutsideSampling := by
  intro s p level h
  have htick := tick_withPorts h p { p with pinI := level }
  have hreset := resetTick_withPorts s p { p with pinI := level }
  simp only [step, exec_eq_tick, ports_withPorts, commandEffect_withPorts, htick, hreset]

end IgnoredLine

section CacheOverARun

variable {s t u : State}

theorem sameCache_trans (hst : SameCache s t) (htu : SameCache t u) : SameCache s u := by
  obtain ⟨hframe, hhum, htemp, htime, hvalid⟩ := hst
  obtain ⟨hframe', hhum', htemp', htime', hvalid'⟩ := htu
  exact ⟨hframe'.trans hframe, hhum'.trans hhum, htemp'.trans htemp, htime'.trans htime, hvalid'.trans hvalid⟩

/-- The first tick of a run without reset, and the rest of the run. -/
theorem ticks_of_noReset_succ {n : Nat} (h : NoReset s (n + 1)) : ∃ u, Ticks s u ∧ NoReset u n := by
  have hrst : s.ports.rst = false := h 0 n.succ_pos
  have ⟨u, hstep⟩ : ∃ u, step s = .next u := by
    obtain ⟨-, hs⟩ | ⟨-, -, hs⟩ | ⟨-, -, hs⟩ := step_cases s <;> exact ⟨_, hs⟩
  obtain ⟨e, rfl, -⟩ := eq_tick_of_ticks ⟨hrst, hstep⟩
  obtain ⟨-, -, hinputs, hfree⟩ := tickPassed_tick s e
  refine ⟨_, ⟨hrst, hstep⟩, fun k hk => ?_⟩
  rw [portsAt_congr hinputs hfree]
  exact h (k + 1) (Nat.succ_lt_succ hk)

/-- A tick that reports no success leaves the cache (R160). -/
theorem sameCache_of_ticks (h : Ticks s t) (hdone : ¬ Done t 0) : SameCache s t := by
  obtain ⟨hsame | ⟨-, -, hsuccess⟩, -⟩ := cacheIsWrittenByTheCommitAlone s t h
  · exact hsame
  · exact absurd hsuccess hdone

/-- Settles O53, by induction on the number of ticks. -/
theorem cacheStandsBetweenSuccesses : Obligations.CacheStandsBetweenSuccesses := by
  intro n
  induction n with
  | zero =>
    intro s t _ hrun _
    cases hrun
    exact ⟨rfl, rfl, rfl, rfl, rfl⟩
  | succ n ih =>
    intro s t hreset hrun hquiet
    obtain ⟨u, htick, hreset'⟩ := ticks_of_noReset_succ hreset
    have hrun_from (m : Nat) : run (m + 1) s = run m u := run_succ m htick.2
    have hfirst : SameCache s u := sameCache_of_ticks htick (hquiet 0 u n.succ_pos (hrun_from 0))
    have hrest : SameCache u t := ih u t hreset' (hrun_from n ▸ hrun) fun m v hm hv =>
      hquiet (m + 1) v (Nat.succ_lt_succ hm) (hrun_from (m + 1) ▸ hv)
    exact sameCache_trans hfirst hrest

end CacheOverARun

section PresentedWord

/-- Every command is read back from its word (R81, R83). -/
theorem decodeWord_encode (i : Instr) : decodeWord (encode i) = i := by
  cases i with
  | reserved x => revert x; decide
  | _ => rfl

/-- A command word written as a number of eight bits fits the port unchanged (R80). -/
theorem commandWord_of_byte (w : CommandWord) : BitVec.ofNat 4 (w.toNat % 2 ^ 8) = w := by
  rw [Nat.mod_eq_of_lt (w.isLt.trans (by decide)), BitVec.ofNat_toNat, BitVec.setWidth_eq]

/-- `withFetchWord` places the command's word on the ports, beside the line sample that stood there (log 2). -/
theorem withFetchWord_encode (s : State) (i : Instr) :
    s.withFetchWord 8 (encode i).toNat = withPorts s ⟨false, s.ports.pinI, true, encode i⟩ := by
  rw [State.withFetchWord, commandWord_of_byte]; rfl

/-- Settles O6: the word on the ports decodes to the command, and nothing but the coming sample is written. -/
theorem presentedWordRunsNext : Obligations.PresentedWordRunsNext := by
  intro s i hi
  rw [withFetchWord_encode]
  exact ⟨stepRunsTheDecodedCommand _ i rfl rfl (decodeWord_encode i) hi,
    ⟨⟨rfl, rfl, rfl, rfl⟩, ⟨rfl, rfl, rfl, rfl, rfl, rfl⟩, rfl⟩, rfl, rfl, rfl, rfl, rfl⟩

end PresentedWord

end Sys2Proof.Machine

/-! SUPPORT. Proofs of the encoding family: the opcode map and its stored form, the codes a step reports, and the run of ticks from
the first high sample of a bit to the end of its pulse. -/

namespace Sys2Proof.Machine

open Sys2Proof.Safety

section CommandWords

variable {w : CommandWord}

/-- Every word is the word of the command it decodes to (R81, R83): there are sixteen. -/
theorem encode_decodeWord (w : CommandWord) : encode (decodeWord w) = w := by
  revert w; decide

/-- No command has an operand, so every one is well formed (R80). -/
theorem wellFormed_instr (i : Instr) : i.wellFormed = true := by cases i <;> rfl

/-- The reserved row of the opcode map is selected by bit 3 alone (R83). -/
theorem selects_reserved_iff (w : CommandWord) : selects w 0x8#4 0x8#4 = true ↔ w.getLsbD 3 = true := by
  revert w; decide

theorem decodeWord_of_bit_three (h : w.getLsbD 3 = true) : decodeWord w = .reserved (w.extractLsb' 0 3) := by
  rw [decodeWord, if_pos ((selects_reserved_iff w).2 h)]

/-- The word of a reserved command has bit 3 set (R83). -/
theorem encode_reserved_bit_three (x : BitVec 3) : (encode (.reserved x)).getLsbD 3 = true := by
  revert x; decide

/-- Settles O1: the tabled words are the words of their commands, and 0x11 has a bit above bit 3 set. -/
theorem commandWordsDecodeAsTabled : Obligations.CommandWordsDecodeAsTabled :=
  ⟨decodeWord_encode .nop, decodeWord_encode .read, decodeWord_encode .getres, decodeWord_encode .gethum,
    decodeWord_encode .gettemp, decodeWord_encode .getframe, decodeWord_encode .gettime, decodeWord_encode .getstat,
    decodeWord_encode (.reserved 0), decodeWord_encode (.reserved 7), rfl, rfl, rfl⟩

/-- Settles O3: a reserved command has its bit 3 in its word, and bit 3 selects the reserved row. -/
theorem reservedExactlyWithBitThreeSet : Obligations.ReservedExactlyWithBitThreeSet := by
  refine fun w => ⟨?_, fun h => ⟨_, decodeWord_of_bit_three h⟩⟩
  rintro ⟨x, hx⟩
  rw [← encode_decodeWord w, hx]
  exact encode_reserved_bit_three x

/-- Settles O4, table by table. -/
theorem codesAreNumberedAsTabled : Obligations.CodesAreNumberedAsTabled := ⟨rfl, rfl, rfl⟩

end CommandWords

section StoredCommands

variable {bs rest : List Byte} {i : Instr}

/-- The halves of a stored word: the word below, 0 above (log 9). -/
theorem extractLsb'_stored (w : CommandWord) :
    (w.setWidth 8).extractLsb' 0 4 = w ∧ (w.setWidth 8).extractLsb' 4 4 = 0#4 := by
  revert w; decide

/-- A byte with a high half of 0 is the stored form of its low half. -/
theorem stored_low_half {b : Byte} (h : b.extractLsb' 4 4 = 0#4) : b = (b.extractLsb' 0 4).setWidth 8 := by
  revert b; decide

/-- A stored word is read whatever follows it. -/
theorem decodeBytes_stored (w : CommandWord) (rest : List Byte) :
    decodeBytes (w.setWidth 8 :: rest) = .ok (decodeWord w, rest) := by
  obtain ⟨hlow, hhigh⟩ := extractLsb'_stored w
  simp [decodeBytes, hlow, hhigh]

/-- Whatever the byte decoder accepts begins with a stored word. -/
theorem exists_stored_of_decodeBytes (h : decodeBytes bs = .ok (i, rest)) :
    ∃ w : CommandWord, bs = w.setWidth 8 :: rest ∧ i = decodeWord w := by
  cases bs with
  | nil => simp [decodeBytes] at h
  | cons b tail =>
    by_cases hhigh : b.extractLsb' 4 4 = 0#4
    · obtain ⟨rfl, rfl⟩ : decodeWord (b.extractLsb' 0 4) = i ∧ tail = rest := by simpa [decodeBytes, hhigh] using h
      exact ⟨_, congrArg (· :: tail) (stored_low_half hhigh), rfl⟩
    · simp [decodeBytes, hhigh] at h

/-- Settles O2, from the two inverse laws on words and the stored form of a word. -/
theorem decodeAndEncodeAgree : Obligations.DecodeAndEncodeAgree := by
  refine ⟨fun i rest _ => ⟨decodeWord_encode i, ?_⟩, fun bs rest i h => ?_, fun w => ⟨encode_decodeWord w, wellFormed_instr _⟩⟩
  · have hstored := decodeBytes_stored (encode i) rest
    rwa [decodeWord_encode] at hstored
  · obtain ⟨w, rfl, rfl⟩ := exists_stored_of_decodeBytes h
    rw [encodeBytes, encode_decodeWord, List.singleton_append]

end StoredCommands

section ReportedCodes

variable {s t : State} {e : CommandEffect} {r : ResultCode}

/-- Settles O7, case by case of what a step can do. -/
theorem everyStepHasANextState : Obligations.EveryStepHasANextState := by
  intro s
  obtain ⟨-, h⟩ | ⟨-, -, h⟩ | ⟨-, -, h⟩ := step_cases s <;> exact ⟨_, h⟩

/-- The codes 6 and 7 are those of the two reserved results (R85, R86). -/
theorem code_le_five_of_inUse (h : r ≠ .busBusy ∧ r ≠ .ackTooLong) : r.code.toNat ≤ 5 := by
  revert h; cases r <;> decide

/-- A `done` of a tick reports the result that stands in `LAST_RESULT` after it: the sequencer writes the code it reports, and a
rate-limited `READ` reports the code that stands (R26, R172). -/
theorem LegalEffect.done_eq_lastResult (he : LegalEffect s e) (h : ((sequencer s).done <|> e.done) = some r) :
    (tick s e).lastResult = r := by
  rw [he.tick_lastResult]
  cases hseq : (sequencer s).done with
  | some q => simpa [hseq] using h
  | none =>
    obtain ⟨-, -, rfl⟩ := he.done_only r (by simpa [hseq] using h)
    rfl

/-- `done_code` is 0, or the code of the result that the tick leaves in `LAST_RESULT`. -/
theorem step_doneCode (h : step s = .next t) : t.out.doneCode = 0#3 ∨ t.out.doneCode = t.lastResult.code := by
  obtain rfl | ⟨e, he, rfl⟩ := step_next_cases h
  · exact .inl rfl
  · rw [tick_out, outputsOf_doneCode]
    cases hdone : ((sequencer s).done <|> e.done) with
    | none => exact .inl rfl
    | some r => rw [he.done_eq_lastResult hdone]; exact .inr rfl

/-- Settles O43: the invariant holds after the step too, so `LAST_RESULT` is in use, and it is all that a `done` can report. -/
theorem reservedCodesNeverAppear : Obligations.ReservedCodesNeverAppear := by
  intro s t hs hstep
  have hresult := (everyStepKeepsTheInvariant s t hs hstep).resultInUse
  refine ⟨?_, hresult⟩
  obtain h | h := step_doneCode hstep <;> rw [h]
  · decide
  · exact code_le_five_of_inUse hresult

end ReportedCodes

section RunsOfTicks

/-- A run of `n` ticks leads from `s` to `t`, and the samples on the ports of `t` are those of `s` from offset `n` on. -/
structure RunsTo (n : Nat) (s t : State) : Prop where
  run_eq : run n s = .next t
  ports_eq : ∀ k, portsAt t k = portsAt s (n + k)

/-- The registers of `t` other than `NOW` are those the action leaves, and the `done` of the tick that led to `t` is the action's. -/
structure Shows (a : Action) (t : State) : Prop where
  working : SameWorking a.state t
  session : SameSession a.state t
  doneValid : t.out.doneValid = a.done.isSome
  doneCode : t.out.doneCode = (a.done.map ResultCode.code).getD 0#3

variable {s t u : State} {m n : Nat}

theorem runsTo_zero (s : State) : RunsTo 0 s s := ⟨rfl, fun k => by rw [Nat.zero_add]⟩

theorem RunsTo.trans (hst : RunsTo m s t) (htu : RunsTo n t u) : RunsTo (m + n) s u :=
  ⟨(run_add m n hst.run_eq).trans htu.run_eq, fun k => by rw [htu.ports_eq, hst.ports_eq, Nat.add_assoc]⟩

theorem RunsTo.ports (h : RunsTo n s t) : t.ports = portsAt s n := h.ports_eq 0

theorem RunsTo.pinSample (h : RunsTo n s t) : t.pinSample = (portsAt s n).pinI := congrArg Inputs.pinI h.ports

theorem RunsTo.noReset (h : RunsTo m s t) (hreset : NoReset s (m + n)) : NoReset t n := fun k hk => by
  rw [h.ports_eq]; exact hreset (m + k) (Nat.add_lt_add_left hk m)

theorem noReset_of_le (h : NoReset s n) (hle : m ≤ n) : NoReset s m := fun k hk => h k (hk.trans_le hle)

theorem sameSession_trans (hst : SameSession s t) (htu : SameSession t u) : SameSession s u :=
  ⟨htu.1.trans hst.1, sameCache_trans hst.2 htu.2⟩

theorem noDone_of_shows (h : Shows (continueWith u) t) : NoDone t := ⟨h.doneValid, h.doneCode⟩

/-- A failure counts from every earlier state with the same cache. -/
theorem failedWith_of_sameCache {e : ResultCode} (hcache : SameCache s t) (h : FailedWith t u e) : FailedWith s u e := by
  obtain ⟨hresult, hrest, hsame, hdone⟩ := h
  exact ⟨hresult, hrest, sameCache_trans hcache hsame, hdone⟩

/-- A tick whose action is `raise E` ends the transaction as R204 says. -/
theorem failedWith_of_shows_raise {e : ResultCode} (h : Shows (raise e u) t) (hcache : SameCache s u) : FailedWith s t e := by
  obtain ⟨hresult, hsame⟩ := h.session
  exact failedWith_of_sameCache hcache ⟨hresult, h.working, hsame, h.doneValid, h.doneCode⟩

/-- Outside `IDLE` a tick without reset shows the sequencer's action, whatever command is presented (R170, R173). -/
theorem runsTo_one_of_busy (hbusy : s.phase ≠ .idle) (hreset : NoReset s 1) : ∃ t, RunsTo 1 s t ∧ Shows (sequencer s) t := by
  obtain ⟨t, htick, -⟩ := ticks_of_noReset_succ hreset
  obtain ⟨-, -, hinputs, hfree⟩ := everyTickCountsNow s t htick
  refine ⟨t, ⟨run_succ 0 htick.2, fun k => ?_⟩, ?_⟩
  · rw [portsAt_congr hinputs hfree, Nat.add_comm, portsAt_succ]
  · obtain ⟨e, he, rfl⟩ := eq_tick_of_legalEffect htick
    have hstarts : e.starts = false := Bool.eq_false_iff.2 fun h => hbusy (he.starts_only h).1
    rw [tick_of_not_starts s e hstarts, he.done_of_busy hbusy]
    constructor <;> simp [SameWorking, SameSession, SameCache]

end RunsOfTicks

section CountingTicks

/-- From `s` to `u` nothing has happened but that `TMR` counts `n`, and `NOW`. -/
def CountedTo (n : Nat) (s u : State) : Prop := SameWorking (s.setTmr (BitVec.ofNat 32 n)) u ∧ SameSession s u

variable {s u : State} {n : Nat}

theorem CountedTo.phase (h : CountedTo n s u) : u.phase = s.phase := h.1.1

theorem CountedTo.tmr_toNat (h : CountedTo n s u) (hn : n < 2 ^ 32) : u.tmr.toNat = n := by
  rw [h.1.2.1, State.setTmr_tmr, BitVec.toNat_ofNat, Nat.mod_eq_of_lt hn]

/-- A phase entered with `TMR` = 0 whose action counts in each of the next `n` ticks. -/
theorem runsTo_counted (hbusy : s.phase ≠ .idle) (htmr : s.tmr = 0) (hreset : NoReset s n)
    (hcount : ∀ k u, k < n → RunsTo k s u → CountedTo k s u → sequencer u = continueWith (u.setTmr (u.tmr + 1#32))) :
    ∃ u, RunsTo n s u ∧ CountedTo n s u := by
  induction n with
  | zero => exact ⟨s, runsTo_zero s, ⟨rfl, htmr, rfl, rfl⟩, rfl, rfl, rfl, rfl, rfl, rfl⟩
  | succ n ih =>
    obtain ⟨u, hrun, hcounted⟩ := ih (noReset_of_le hreset n.le_succ) fun k u hk => hcount k u (hk.trans n.lt_succ_self)
    obtain ⟨v, hlast, hshows⟩ := runsTo_one_of_busy (hcounted.phase ▸ hbusy) (hrun.noReset hreset)
    rw [hcount n u n.lt_succ_self hrun hcounted] at hshows
    obtain ⟨⟨hphase, hcounted_tmr, hidx, hbits⟩, hsession⟩ := hcounted
    obtain ⟨hvphase, hvtmr, hvidx, hvbits⟩ := hshows.working
    refine ⟨v, hrun.trans hlast, ⟨hvphase.trans hphase, ?_, hvidx.trans hidx, hvbits.trans hbits⟩,
      sameSession_trans hsession hshows.session⟩
    rw [hvtmr, continueWith_state, State.setTmr_tmr, State.setTmr_tmr, hcounted_tmr, State.setTmr_tmr, BitVec.ofNat_add]

end CountingTicks

section WaitingPhases

/-! A waiting phase is given by the row of the sequencer's table that it takes (R134). -/

variable {s : State} {level : Level} {budget n : Nat} {e : ResultCode} {next : State → State}

theorem awaitLevel_of_ne (h : s.pinSample ≠ level) : awaitLevel level budget e next s = continueWith (next (s.setTmr 0#32)) := by
  simp [awaitLevel, h]

theorem awaitLevel_of_budget (h : s.pinSample = level) (htmr : s.tmr.toNat = budget) :
    awaitLevel level budget e next s = raise e s := by simp [awaitLevel, h, htmr]

theorem awaitLevel_of_eq (h : s.pinSample = level) (htmr : s.tmr.toNat ≠ budget) :
    awaitLevel level budget e next s = continueWith (s.setTmr (s.tmr + 1#32)) := by simp [awaitLevel, h, htmr]

/-- Up to its budget a waiting phase counts the samples that show the level to exit (R112). -/
theorem runsTo_of_waiting (hseq : ∀ u, u.phase = s.phase → sequencer u = awaitLevel level budget e next u)
    (hbusy : s.phase ≠ .idle) (htmr : s.tmr = 0) (hn : n ≤ budget) (hbudget : budget < 2 ^ 32) (hreset : NoReset s n)
    (hpin : ∀ k, k < n → (portsAt s k).pinI = level) : ∃ u, RunsTo n s u ∧ CountedTo n s u := by
  refine runsTo_counted hbusy htmr hreset fun k u hk hrun hcounted => ?_
  rw [hseq u hcounted.phase]
  refine awaitLevel_of_eq (hrun.pinSample.trans (hpin k hk)) ?_
  rw [hcounted.tmr_toNat (by omega)]
  omega

/-- A waiting phase goes on in the tick of the first sample that differs, at offset `n` within its budget (R112). -/
theorem runsTo_of_wait_ends (hseq : ∀ u, u.phase = s.phase → sequencer u = awaitLevel level budget e next u)
    (hbusy : s.phase ≠ .idle) (htmr : s.tmr = 0) (hn : n ≤ budget) (hbudget : budget < 2 ^ 32) (hreset : NoReset s (n + 1))
    (hpin : ∀ k, k < n → (portsAt s k).pinI = level) (hend : (portsAt s n).pinI ≠ level) :
    ∃ u t, CountedTo n s u ∧ RunsTo (n + 1) s t ∧ Shows (continueWith (next (u.setTmr 0#32))) t := by
  obtain ⟨u, hrun, hcounted⟩ := runsTo_of_waiting hseq hbusy htmr hn hbudget (noReset_of_le hreset n.le_succ) hpin
  obtain ⟨t, hlast, hshows⟩ := runsTo_one_of_busy (hcounted.phase ▸ hbusy) (hrun.noReset hreset)
  rw [hseq u hcounted.phase, awaitLevel_of_ne (hrun.pinSample ▸ hend)] at hshows
  exact ⟨u, t, hcounted, hrun.trans hlast, hshows⟩

/-- A waiting phase whose samples up to its budget all show the level to exit fails in the tick of the last (R112, R204). -/
theorem runsTo_of_wait_timesOut (hseq : ∀ u, u.phase = s.phase → sequencer u = awaitLevel level budget e next u)
    (hbusy : s.phase ≠ .idle) (htmr : s.tmr = 0) (hbudget : budget < 2 ^ 32) (hreset : NoReset s (budget + 1))
    (hpin : ∀ k, k ≤ budget → (portsAt s k).pinI = level) : ∃ t, RunsTo (budget + 1) s t ∧ FailedWith s t e := by
  obtain ⟨u, hrun, hcounted⟩ := runsTo_of_waiting hseq hbusy htmr le_rfl hbudget (noReset_of_le hreset budget.le_succ)
    fun k hk => hpin k hk.le
  obtain ⟨t, hlast, hshows⟩ := runsTo_one_of_busy (hcounted.phase ▸ hbusy) (hrun.noReset hreset)
  rw [hseq u hcounted.phase,
    awaitLevel_of_budget (hrun.pinSample.trans (hpin budget le_rfl)) (hcounted.tmr_toNat hbudget)] at hshows
  exact ⟨t, hrun.trans hlast, failedWith_of_shows_raise hshows hcounted.2.2⟩

end WaitingPhases

section OneBit

variable {s : State} {n : Nat}

theorem settleAndSample_of_last (h : s.tmr.toNat = 39) :
    settleAndSample s = continueWith (((s.writeBit s.pinSample).setTmr 0#32).setPhase .bitWaitHigh) := by
  simp [settleAndSample, tBitSettle, h]

theorem settleAndSample_of_ne (h : s.tmr.toNat ≠ 39) : settleAndSample s = continueWith (s.setTmr (s.tmr + 1#32)) := by
  simp [settleAndSample, tBitSettle, h]

/-- After bit 39 comes `CHECK`, after every other bit the next one (R130). -/
theorem nextBit_phase (s : State) : (nextBit s).phase = if s.bitIdx = 39 then .check else .bitWaitLow := by
  obtain ⟨hlt, h⟩ | ⟨hlast, h⟩ := nextBit_cases s <;> rw [h]
  · have hne : s.bitIdx ≠ 39 := fun h39 => by simp [h39] at hlt
    rw [if_neg hne, State.setPhase_phase]
  · rw [if_pos hlast, State.setPhase_phase]

/-- `t` is at the start of `BIT_WAIT_HIGH` of the bit that `s` receives, with `b` as its sample (R129). -/
structure Sampled (b : Level) (s t : State) : Prop where
  phase : t.phase = .bitWaitHigh
  tmr : t.tmr = 0
  bitIdx : t.bitIdx = s.bitIdx
  bits : t.bits = s.bits.set s.bitIdx.val b s.bitIdx.isLt
  session : SameSession s t

/-- `BIT_SETTLE` entered with `TMR` = 0 counts 39 ticks and takes the sample of offset 39 in the tick after them (R129). -/
theorem runsTo_sampled_of_settling (hphase : s.phase = .bitSettle) (htmr : s.tmr = 0) (hreset : NoReset s 40) :
    ∃ t, RunsTo 40 s t ∧ Sampled (portsAt s 39).pinI s t := by
  have hbusy : s.phase ≠ .idle := by simp [hphase]
  obtain ⟨u, hrun, hcounted⟩ := runsTo_counted (n := 39) hbusy htmr (noReset_of_le hreset (by decide))
    fun k u hk _ hcounted => by
      rw [sequencer_bitSettle (hcounted.phase.trans hphase)]
      exact settleAndSample_of_ne (by rw [hcounted.tmr_toNat (by omega)]; omega)
  obtain ⟨t, hlast, hshows⟩ := runsTo_one_of_busy (hcounted.phase ▸ hbusy) (hrun.noReset hreset)
  rw [sequencer_bitSettle (hcounted.phase.trans hphase), settleAndSample_of_last (hcounted.tmr_toNat (by decide)),
    hrun.pinSample] at hshows
  obtain ⟨htphase, httmr, htidx, htbits⟩ := hshows.working
  obtain ⟨⟨-, -, hidx, hbits⟩, hsession⟩ := hcounted
  refine ⟨t, hrun.trans hlast, htphase, httmr, htidx.trans hidx, htbits.trans ?_, sameSession_trans hsession hshows.session⟩
  simp [hidx, hbits]

/-- From the high sample that ends `BIT_WAIT_LOW` the bit is the sample 40 ticks later (R128, R129). -/
theorem runsTo_sampled (hphase : s.phase = .bitWaitLow) (hpin : s.pinSample = true) (hreset : NoReset s 41) :
    ∃ t, RunsTo 41 s t ∧ Sampled (portsAt s 40).pinI s t := by
  obtain ⟨a, hfirst, hshows⟩ := runsTo_one_of_busy (by simp [hphase]) (noReset_of_le hreset (by decide))
  rw [sequencer_bitWaitLow hphase, awaitLevel_of_ne (by simp [hpin])] at hshows
  obtain ⟨htphase, httmr, htidx, htbits⟩ := hshows.working
  obtain ⟨t, hrest, hsampled⟩ := runsTo_sampled_of_settling htphase httmr (hfirst.noReset (n := 40) hreset)
  rw [hfirst.ports_eq 39] at hsampled
  refine ⟨t, hfirst.trans hrest, hsampled.phase, hsampled.tmr, hsampled.bitIdx.trans htidx, hsampled.bits.trans ?_,
    sameSession_trans hshows.session hsampled.session⟩
  simp [htidx, htbits]

/-- A high pulse that ends within the budget of `BIT_WAIT_HIGH` ends the bit (R130). -/
theorem runsTo_of_pulse_ends (hphase : s.phase = .bitWaitHigh) (htmr : s.tmr = 0) (hn : n ≤ 50) (hreset : NoReset s (n + 1))
    (hpin : ∀ k, k < n → (portsAt s k).pinI = true) (hend : (portsAt s n).pinI = false) :
    ∃ t, RunsTo (n + 1) s t ∧ t.phase = (if s.bitIdx = 39 then .check else .bitWaitLow) ∧ t.tmr = 0 ∧ t.bits = s.bits ∧
      SameSession s t ∧ NoDone t := by
  obtain ⟨u, t, hcounted, hrun, hshows⟩ := runsTo_of_wait_ends (fun u hu => sequencer_bitWaitHigh (hu.trans hphase))
    (by simp [hphase]) htmr hn (by decide) hreset hpin (by simp [hend])
  obtain ⟨⟨-, -, hidx, hbits⟩, hsession⟩ := hcounted
  obtain ⟨htphase, httmr, -, htbits⟩ := hshows.working
  refine ⟨t, hrun, ?_, by simp [httmr], by simp [htbits, hbits], sameSession_trans hsession ?_, noDone_of_shows hshows⟩
  · simp [htphase, nextBit_phase, hidx]
  · simpa [SameSession, SameCache] using hshows.session

end OneBit

section PulseWidth

/-- Settles O50: the bit is sampled 40 ticks after the deciding sample, and `BIT_WAIT_HIGH` begins at offset 41. A pulse of up to 91
ticks shows its first low sample within the budget there, and a longer one none. -/
theorem pulseWidthDecidesTheBit : Obligations.PulseWidthDecidesTheBit := by
  intro s w hphase hw hreset hpin
  have hhigh : s.pinSample = true := (hpin 0 (by decide)).trans (decide_eq_true hw)
  obtain ⟨b, hrun, hsampled⟩ := runsTo_sampled hphase hhigh (noReset_of_le hreset (by decide))
  have hreset_b : NoReset b 51 := hrun.noReset (n := 51) hreset
  have hpin_b (k : Nat) (hk : k ≤ 50) : (portsAt b k).pinI = decide (41 + k < w) := by
    rw [hrun.ports_eq, hpin _ (by omega)]
  rw [hpin 40 (by decide)] at hsampled
  split
  case isTrue hshort =>
    obtain ⟨n, hn, hwidth⟩ : ∃ n ≤ 50, max 41 w = 41 + n := ⟨max 41 w - 41, by omega, by omega⟩
    obtain ⟨t, hend, htphase, httmr, htbits, hsession, hquiet⟩ := runsTo_of_pulse_ends hsampled.phase hsampled.tmr hn
      (noReset_of_le hreset_b (by omega)) (fun k hk => (hpin_b k (by omega)).trans (decide_eq_true (by omega)))
      ((hpin_b n hn).trans (decide_eq_false (by omega)))
    rw [hwidth]
    exact ⟨t, (hrun.trans hend).run_eq, hsampled.bitIdx ▸ htphase, httmr, htbits.trans hsampled.bits,
      sameSession_trans hsampled.session hsession, hquiet⟩
  case isFalse hlong =>
    obtain ⟨t, hend, hfailed⟩ := runsTo_of_wait_timesOut (fun u hu => sequencer_bitWaitHigh (hu.trans hsampled.phase))
      (by simp [hsampled.phase]) hsampled.tmr (by decide) hreset_b
      fun k hk => (hpin_b k hk).trans (decide_eq_true (by omega))
    exact ⟨t, (hrun.trans hend).run_eq, failedWith_of_sameCache hsampled.session.2 hfailed⟩

end PulseWidth

end Sys2Proof.Machine

/-! SUPPORT. Proofs of the await-level family: the rows of the timed and of the waiting phases, one tick of each, and the runs of
ticks in which such a phase counts and ends. -/

namespace Sys2Proof.Machine

open Sys2Proof.Safety

section BusyTicks

variable {s t : State} {n : Nat}

/-- A tick without reset outside `IDLE` shows the sequencer's action (R170, R173). -/
theorem shows_of_ticks (h : Ticks s t) (hbusy : s.phase ≠ .idle) : Shows (sequencer s) t := by
  obtain ⟨hrst, hstep⟩ := h
  have hreset : NoReset s 1 := fun k hk => by rw [Nat.lt_one_iff.1 hk]; exact hrst
  obtain ⟨u, hrun, hshows⟩ := runsTo_one_of_busy hbusy hreset
  obtain rfl : t = u := by simpa [run_succ 0 hstep] using hrun.run_eq
  exact hshows

/-- No step writes the configuration, reset or not (R12). -/
theorem step_cfg (h : step s = .next t) : t.cfg = s.cfg := by
  obtain rfl | ⟨e, -, rfl⟩ := step_next_cases h
  · rfl
  · exact (tickPassed_tick s e).2.1

theorem run_cfg (h : run n s = .next t) : t.cfg = s.cfg := by
  induction n generalizing s with
  | zero => cases h; rfl
  | succ n ih =>
    obtain ⟨u, hu⟩ := everyStepHasANextState s
    rw [run_succ n hu] at h
    exact (ih h).trans (step_cfg hu)

end BusyTicks

section TimedPhases

variable {s t : State} {duration n : Nat} {p next : Phase}

theorem delay_of_last (h : duration ≤ s.tmr.toNat + 1) :
    delay duration next s = continueWith ((s.setTmr 0#32).setPhase next) := by simp [delay, h]

theorem delay_of_lt (h : s.tmr.toNat + 1 < duration) : delay duration next s = continueWith (s.setTmr (s.tmr + 1#32)) := by
  simp [delay, h]

/-- The sequencer takes the row of its phase under the configuration of its state (R122 to R124). -/
theorem sequencer_of_timedRow (h : TimedRow s.cfg s.phase duration next) : sequencer s = delay duration next s := by
  obtain ⟨hphase, rfl, rfl⟩ | ⟨hphase, rfl, rfl⟩ | ⟨hphase, rfl, rfl⟩ := h
  · exact sequencer_startSettle hphase
  · exact sequencer_startLow hphase
  · exact sequencer_startRelease hphase

/-- Settles O20: a tick shows the sequencer's action, which is one tick of `Delay`. -/
theorem timedPhasesCountOrMoveOn : Obligations.TimedPhasesCountOrMoveOn := by
  intro s t duration next htick hrow
  have hshows := shows_of_ticks htick (timedRow_order hrow).1
  have hpassed := everyTickCountsNow s t htick
  rw [sequencer_of_timedRow hrow] at hshows
  obtain ⟨hlast, h⟩ | ⟨hcount, h⟩ := delay_cases s duration next <;> rw [h] at hshows <;>
    obtain ⟨hphase, htmr, hidx, hbits⟩ := hshows.working
  · rw [if_pos hlast]
    exact ⟨⟨hphase, htmr⟩, hidx, hbits, hshows.session, hpassed, noDone_of_shows hshows⟩
  · rw [if_neg (Nat.not_le.2 hcount)]
    exact ⟨⟨hphase, htmr⟩, hidx, hbits, hshows.session, hpassed, noDone_of_shows hshows⟩

/-- The row of a timed phase stands as long as the phase does: no tick writes the configuration. -/
theorem sequencer_of_counted (hrow : TimedRow s.cfg s.phase duration next) (hrun : RunsTo n s t) (hcounted : CountedTo n s t) :
    sequencer t = delay duration next t :=
  sequencer_of_timedRow (by rwa [run_cfg hrun.run_eq, hcounted.phase])

/-- A timed phase counts in every tick but the last of its duration (R118). -/
theorem runsTo_of_delaying (hrow : TimedRow s.cfg s.phase duration next) (htmr : s.tmr = 0) (hn : n < duration)
    (hduration : duration < 2 ^ 32) (hreset : NoReset s n) : ∃ u, RunsTo n s u ∧ CountedTo n s u := by
  refine runsTo_counted (timedRow_order hrow).1 htmr hreset fun k u hk hrun hcounted => ?_
  rw [sequencer_of_counted hrow hrun hcounted]
  exact delay_of_lt (by rw [hcounted.tmr_toNat (by omega)]; omega)

/-- Settles O48: the phase counts up to `TMR` = `D - 1`, and the tick after that is its last. -/
theorem delayHoldsExactlyItsDuration : Obligations.DelayHoldsExactlyItsDuration := by
  intro s duration next hrow htmr hpos hduration hreset
  refine ⟨fun n hn => ?_, ?_⟩
  · obtain ⟨u, hrun, hcounted⟩ := runsTo_of_delaying hrow htmr hn hduration (noReset_of_le hreset hn.le)
    exact ⟨u, hrun.run_eq, hcounted.phase, hcounted.tmr_toNat (hn.trans hduration)⟩
  · obtain ⟨d, rfl⟩ := Nat.exists_eq_add_of_le' hpos
    obtain ⟨u, hrun, hcounted⟩ := runsTo_of_delaying hrow htmr d.lt_succ_self hduration (noReset_of_le hreset d.le_succ)
    have hbusy : u.phase ≠ .idle := hcounted.phase ▸ (timedRow_order hrow).1
    obtain ⟨t, hlast, hshows⟩ := runsTo_one_of_busy hbusy (hrun.noReset hreset)
    have htmr_u : u.tmr.toNat = d := hcounted.tmr_toNat (by omega)
    rw [sequencer_of_counted hrow hrun hcounted, delay_of_last (by omega)] at hshows
    obtain ⟨⟨-, -, hidx, hbits⟩, hsession⟩ := hcounted
    obtain ⟨htphase, httmr, htidx, htbits⟩ := hshows.working
    exact ⟨t, (hrun.trans hlast).run_eq, htphase, httmr, htidx.trans hidx, htbits.trans hbits,
      sameSession_trans hsession hshows.session⟩

end TimedPhases

section WaitingRows

/-- `t` is what the end of a wait makes of `s` (R125 to R128, R130): the phase after it with `TMR` = 0, the next index after a bit
that is not the last, and nothing else. -/
structure LeftWait (s t : State) : Prop where
  phase : t.phase = phaseAfterWait s
  tmr : t.tmr = 0
  bitIdx : t.bitIdx.val = if s.phase = .bitWaitHigh ∧ s.bitIdx ≠ 39 then s.bitIdx.val + 1 else s.bitIdx.val
  bits : t.bits = s.bits
  session : SameSession s t

variable {s t u : State} {n budget : Nat} {p : Phase} {level : Level} {e : ResultCode}

/-- In the rows before the bit loop's end only the phase is written besides `TMR` (R125 to R128). -/
theorem leftWait_setPhase (hphase : p = phaseAfterWait s) (hne : s.phase ≠ .bitWaitHigh) :
    LeftWait s ((s.setTmr 0#32).setPhase p) where
  phase := hphase
  tmr := rfl
  bitIdx := by simp [hne]
  bits := rfl
  session := ⟨rfl, rfl, rfl, rfl, rfl, rfl⟩

theorem nextBit_bitIdx (s : State) :
    (nextBit s).bitIdx.val = if s.bitIdx = 39 then s.bitIdx.val else s.bitIdx.val + 1 := by
  obtain ⟨hlt, h⟩ | ⟨hlast, h⟩ := nextBit_cases s <;> rw [h]
  · have hne : s.bitIdx ≠ 39 := fun h39 => by simp [h39] at hlt
    rw [if_neg hne]; rfl
  · rw [if_pos hlast]; rfl

/-- The end of a bit's high pulse (R130). -/
theorem leftWait_nextBit (hphase : s.phase = .bitWaitHigh) : LeftWait s (nextBit (s.setTmr 0#32)) where
  phase := (nextBit_phase (s.setTmr 0#32)).trans (by rw [phaseAfterWait, hphase]; rfl)
  tmr := by simp
  bitIdx := (nextBit_bitIdx (s.setTmr 0#32)).trans (by rw [State.setTmr_bitIdx]; simp [hphase])
  bits := by simp
  session := by simp [SameSession, SameCache]

/-- The sequencer takes the row of a waiting phase, and the continuation of the row ends the wait (R134). -/
theorem sequencer_of_waitRow (h : WaitRow p level budget e) :
    ∃ next : State → State, (∀ u, u.phase = p → sequencer u = awaitLevel level budget e next u) ∧
      ∀ u, u.phase = p → LeftWait u (next (u.setTmr 0#32)) := by
  obtain ⟨rfl, rfl, rfl, rfl⟩ | ⟨rfl, rfl, rfl, rfl⟩ | ⟨rfl, rfl, rfl, rfl⟩ | ⟨rfl, rfl, rfl, rfl⟩ | ⟨rfl, rfl, rfl, rfl⟩ := h
  · exact ⟨_, fun _ => sequencer_waitResp, fun u hu => leftWait_setPhase (by simp [phaseAfterWait, hu]) (by simp [hu])⟩
  · exact ⟨_, fun _ => sequencer_waitAckLow, fun u hu => leftWait_setPhase (by simp [phaseAfterWait, hu]) (by simp [hu])⟩
  · exact ⟨_, fun _ => sequencer_waitAckHigh, fun u hu => leftWait_setPhase (by simp [phaseAfterWait, hu]) (by simp [hu])⟩
  · exact ⟨_, fun _ => sequencer_bitWaitLow, fun u hu => leftWait_setPhase (by simp [phaseAfterWait, hu]) (by simp [hu])⟩
  · exact ⟨_, fun _ => sequencer_bitWaitHigh, fun u hu => leftWait_nextBit hu⟩

/-- Every budget fits `TMR` (R10). -/
theorem waitRow_budget_lt (h : WaitRow p level budget e) : budget < 2 ^ 32 := by
  obtain ⟨-, -, rfl, -⟩ | ⟨-, -, rfl, -⟩ | ⟨-, -, rfl, -⟩ | ⟨-, -, rfl, -⟩ | ⟨-, -, rfl, -⟩ := h <;> decide

/-- The tick that takes the end of a wait shows it. -/
theorem LeftWait.of_shows (h : LeftWait s u) (hshows : Shows (continueWith u) t) : LeftWait s t := by
  obtain ⟨hphase, htmr, hidx, hbits⟩ := hshows.working
  exact ⟨hphase.trans h.phase, htmr.trans h.tmr, (congrArg Fin.val hidx).trans h.bitIdx, hbits.trans h.bits,
    sameSession_trans h.session hshows.session⟩

/-- The ticks that the wait has counted do not change what its end makes of the state. -/
theorem LeftWait.of_counted (hcounted : CountedTo n s u) (h : LeftWait u t) : LeftWait s t := by
  obtain ⟨⟨hphase, -, hidx, hbits⟩, hsession⟩ := hcounted
  rw [State.setTmr_phase] at hphase
  rw [State.setTmr_bitIdx] at hidx
  exact ⟨by simpa only [phaseAfterWait, hphase, hidx] using h.phase, h.tmr,
    by simpa only [hphase, hidx] using h.bitIdx, h.bits.trans hbits, sameSession_trans hsession h.session⟩

/-- Settles O21: a tick shows the sequencer's action, which is one tick of `AwaitLevel`. -/
theorem waitingPhasesFollowAwaitLevel : Obligations.WaitingPhasesFollowAwaitLevel := by
  intro s t level budget e htick hrow
  obtain ⟨next, hseq, hleft⟩ := sequencer_of_waitRow hrow
  have hshows := shows_of_ticks htick (waitRow_ticks hrow s.cfg).1
  rw [hseq s rfl] at hshows
  refine ⟨everyTickCountsNow s t htick, fun hpin => ?_, fun hpin htmr => ?_, fun hpin htmr => ?_⟩
  · rw [awaitLevel_of_ne hpin] at hshows
    have hend := (hleft s rfl).of_shows hshows
    exact ⟨hend.phase, hend.tmr, hend.bits, hend.session, noDone_of_shows hshows, hend.bitIdx⟩
  · rw [awaitLevel_of_budget hpin htmr] at hshows
    exact failedWith_of_shows_raise hshows ⟨rfl, rfl, rfl, rfl, rfl⟩
  · rw [awaitLevel_of_eq hpin htmr] at hshows
    obtain ⟨hphase, htmr, hidx, hbits⟩ := hshows.working
    exact ⟨hphase, htmr, hidx, hbits, hshows.session, noDone_of_shows hshows⟩

/-- Settles O46: up to its budget the wait counts, and with the budget reached the level to exit times it out. -/
theorem waitTimesOutAtItsBudget : Obligations.WaitTimesOutAtItsBudget := by
  intro s level budget e hrow htmr hreset hpin
  obtain ⟨next, hseq, -⟩ := sequencer_of_waitRow hrow
  have hbusy := (waitRow_ticks hrow s.cfg).1
  have hbudget := waitRow_budget_lt hrow
  refine ⟨fun n hn => ?_, ?_⟩
  · obtain ⟨u, hrun, hcounted⟩ := runsTo_of_waiting hseq hbusy htmr hn hbudget (noReset_of_le hreset (by omega))
      fun k hk => hpin k (hk.le.trans hn)
    have ⟨⟨_, _, _, hbits⟩, hsession⟩ := hcounted
    exact ⟨u, hrun.run_eq, hcounted.phase, hcounted.tmr_toNat (hn.trans_lt hbudget), hbits, hsession⟩
  · obtain ⟨t, hrun, hfailed⟩ := runsTo_of_wait_timesOut hseq hbusy htmr hbudget hreset hpin
    exact ⟨t, hrun.run_eq, hfailed⟩

/-- Settles O47: the wait counts the samples before offset `j`, and the sample there ends it. -/
theorem waitEndsAtTheFirstOtherLevel : Obligations.WaitEndsAtTheFirstOtherLevel := by
  intro s level budget j e hrow htmr hj hreset hpin hend
  obtain ⟨next, hseq, hleft⟩ := sequencer_of_waitRow hrow
  obtain ⟨u, t, hcounted, hrun, hshows⟩ := runsTo_of_wait_ends hseq (waitRow_ticks hrow s.cfg).1 htmr hj
    (waitRow_budget_lt hrow) hreset hpin hend
  have hleft_s : LeftWait s t := .of_counted hcounted ((hleft u hcounted.phase).of_shows hshows)
  exact ⟨t, hrun.run_eq, hleft_s.phase, hleft_s.tmr, hleft_s.bits, hleft_s.session, noDone_of_shows hshows⟩

end WaitingRows

end Sys2Proof.Machine

/-! SUPPORT. Proofs of the transaction family: one tick of `IDLE`, of `BIT_SETTLE` and under any command, the start of a transaction,
and the bound of R135 as a number of ticks left that every tick of a transaction lowers. -/

namespace Sys2Proof.Machine

open Sys2Proof.Safety

section SilentTicks

variable {s t : State} {e : CommandEffect}

/-- The end of a tick shows the action whose `done` it reports. -/
theorem shows_finishTick (a : Action) (s : State) (e : CommandEffect) :
    Shows a (finishTick a.state (outputsOf s e a.done)) := by
  constructor <;> simp [SameWorking, SameSession, SameCache]

/-- A tick whose command starts nothing and reports nothing shows the sequencer's action (R170). -/
theorem shows_tick_of_silent (hstarts : e.starts = false) (hdone : e.done = none) : Shows (sequencer s) (tick s e) := by
  have honly : ((sequencer s).done <|> e.done) = (sequencer s).done := by simp [hdone]
  rw [tick_of_not_starts s e hstarts, honly]
  exact shows_finishTick (sequencer s) s e

/-- A silent tick in `IDLE` changes no register but `NOW` (R133). -/
theorem stands_of_shows_idle (hidle : s.phase = .idle) (h : Shows (sequencer s) t) :
    SameWorking s t ∧ SameSession s t ∧ NoDone t := by
  rw [sequencer_idle hidle] at h
  exact ⟨h.working, h.session, noDone_of_shows h⟩

/-- The `done` of an action is the one shown. -/
theorem done_of_shows {a : Action} {r : ResultCode} (h : Shows a t) (hdone : a.done = some r) : Done t r.code :=
  ⟨by rw [h.doneValid, hdone]; rfl, by rw [h.doneCode, hdone]; rfl⟩

theorem noDone_of_shows_none {a : Action} (h : Shows a t) (hdone : a.done = none) : NoDone t :=
  ⟨by rw [h.doneValid, hdone]; rfl, by rw [h.doneCode, hdone]; rfl⟩

/-- Settles O8: the tick with no command is silent, so it shows the sequencer's action. -/
theorem tickWithoutCommandOnlySequences : Obligations.TickWithoutCommandOnlySequences := by
  intro s hrst hvalid
  have hstep : step s = .next (tick s noCommand) := by simp [step, hrst, hvalid]
  have hshows : Shows (sequencer s) (tick s noCommand) := shows_tick_of_silent rfl rfl
  refine ⟨_, hstep, ?_⟩
  rw [tick_out]
  exact ⟨rfl, rfl, rfl, tickPassed_tick s noCommand, hshows.working, hshows.session, fun _ => done_of_shows hshows,
    noDone_of_shows_none hshows, rfl, rfl, rfl, rfl, fun hidle => stands_of_shows_idle hidle hshows⟩

/-- Only the word of `READ` decodes to it (R81). -/
theorem decodeWord_eq_read {w : CommandWord} (h : decodeWord w = .read) : w = 0x1#4 := by
  rw [← encode_decodeWord w, h]; rfl

/-- Every command but `READ` is silent: it starts nothing and reports nothing (R174 to R181). -/
theorem commandEffect_silent {i : Instr} (h : i ≠ .read) (s : State) :
    (commandEffect i s).starts = false ∧ (commandEffect i s).done = none := by
  cases i
  case read => exact absurd rfl h
  all_goals exact ⟨rfl, rfl⟩

/-- A tick in which no `READ` is presented shows the sequencer's action, in `IDLE` too. -/
theorem shows_of_not_readPresented (h : Ticks s t) (hread : ¬ ReadPresented s.ports) : Shows (sequencer s) t := by
  obtain ⟨hrst, hstep⟩ := h
  obtain ⟨hr, -⟩ | ⟨-, hvalid, hs⟩ | ⟨-, -, hs⟩ := step_cases s
  · simp [hrst] at hr
  · obtain rfl : _ = t := by simpa [hs] using hstep
    have hother : decodeWord s.ports.cmdOp ≠ .read := fun h => hread ⟨hvalid, decodeWord_eq_read h⟩
    obtain ⟨hstarts, hdone⟩ := commandEffect_silent hother s
    exact shows_tick_of_silent hstarts hdone
  · obtain rfl : _ = t := by simpa [hs] using hstep
    exact shows_tick_of_silent rfl rfl

/-- Settles O24: without a `READ` the tick shows the sequencer's action, which in `IDLE` is none. -/
theorem idleDoesNothing : Obligations.IdleDoesNothing := by
  intro s t htick hidle hread
  obtain ⟨hworking, hsession, hquiet⟩ := stands_of_shows_idle hidle (shows_of_not_readPresented htick hread)
  obtain ⟨hpin, -⟩ := pinOutputsFollowThePhase s t htick.2
  exact ⟨hworking, hsession, everyTickCountsNow s t htick, hquiet, by simp [hpin, hidle]⟩

end SilentTicks

section StartOfATransaction

variable {s : State} {e : CommandEffect}

/-- A tick whose command starts a transaction shows the start (R121). -/
theorem shows_tick_of_starts (hidle : s.phase = .idle) (hstarts : e.starts = true) (hdone : e.done = none) :
    Shows (continueWith s.startTransaction) (tick s e) := by
  rw [tick_of_starts s e hidle hstarts, hdone]
  exact shows_finishTick (continueWith s.startTransaction) s e

/-- Settles O19: outside the window the effect of a `READ` in `IDLE` is the start. -/
theorem readStartsATransaction : Obligations.ReadStartsATransaction := by
  intro s hidle hout
  obtain ⟨hbusy, -⟩ | ⟨-, hin, -⟩ | ⟨-, -, hread⟩ := readEffect_cases s
  · exact absurd hidle hbusy
  · exact absurd hin hout
  · have hshows : Shows (continueWith s.startTransaction) (tick s ⟨.accepted, none, none, true⟩) :=
      shows_tick_of_starts hidle rfl rfl
    obtain ⟨hphase, htmr, hidx, hbits⟩ := hshows.working
    have hpin : (tick s ⟨.accepted, none, none, true⟩).out.pinOe = false := by rw [tick_out, outputsOf_pinOe, hidle]; rfl
    refine ⟨_, exec_eq_tick .read s, ?_⟩
    rw [commandEffect, hread]
    exact ⟨by rw [tick_out]; rfl, by rw [tick_out]; rfl, by rw [tick_out]; rfl, noDone_of_shows hshows, hphase, htmr, hidx, hbits,
      hshows.session, tickPassed_tick s _, hpin, by rw [hphase]; rfl⟩

end StartOfATransaction

section SampleOfABit

/-- Settles O22: a tick shows the sequencer's action, which counts or samples. -/
theorem bitSettleSamplesOnItsLastTick : Obligations.BitSettleSamplesOnItsLastTick := by
  intro s t htick hphase
  have hshows := shows_of_ticks htick (by simp [hphase])
  have hpassed := everyTickCountsNow s t htick
  rw [sequencer_bitSettle hphase] at hshows
  obtain ⟨hlast, h⟩ | ⟨hcount, h⟩ := settleAndSample_cases s <;> rw [h] at hshows <;>
    obtain ⟨htphase, httmr, htidx, htbits⟩ := hshows.working
  · refine ⟨hpassed, hshows.session, noDone_of_shows hshows, htidx, fun _ => ⟨htphase, httmr, ?_, fun i hi => ?_⟩,
      fun hne => absurd hlast hne⟩
    · simp [htbits, State.writeBit]
    · rw [htbits]
      exact Vector.getElem_set_ne s.bitIdx.isLt i.isLt fun heq => hi (Fin.ext heq.symm)
  · exact ⟨hpassed, hshows.session, noDone_of_shows hshows, htidx, fun h39 => absurd h39 hcount,
      fun _ => ⟨htphase.trans hphase, httmr, htbits⟩⟩

/-- Settles O49: the run of `BIT_SETTLE` in which the bit is sampled. -/
theorem bitIsSampledInTheFortiethTick : Obligations.BitIsSampledInTheFortiethTick := by
  intro s hphase htmr hreset
  obtain ⟨t, hrun, hsampled⟩ := runsTo_sampled_of_settling hphase htmr hreset
  exact ⟨t, hrun.run_eq, hsampled.phase, hsampled.tmr, hsampled.bitIdx, hsampled.bits, hsampled.session⟩

end SampleOfABit

section CommandIndependence

variable {s : State} {p : Inputs}

/-! Of the samples on the ports the sequencer sees the line level alone (R34). -/

theorem awaitLevel_withPorts {next : State → State} (hpin : p.pinI = s.pinSample)
    (hnext : ∀ u, next (withPorts u p) = withPorts (next u) p) (level : Level) (budget : Nat) (e : ResultCode) :
    awaitLevel level budget e next (withPorts s p) = (awaitLevel level budget e next s).withPorts p := by
  obtain ⟨hne, h⟩ | ⟨heq, htmr, h⟩ | ⟨heq, htmr, h⟩ := awaitLevel_cases s level budget e next <;> rw [h]
  · rw [awaitLevel_of_ne (s := withPorts s p) (hpin.trans_ne hne)]
    exact congrArg continueWith (hnext (s.setTmr 0#32))
  · exact awaitLevel_of_budget (s := withPorts s p) (hpin.trans heq) htmr
  · exact awaitLevel_of_eq (s := withPorts s p) (hpin.trans heq) htmr

theorem nextBit_withPorts (u : State) : nextBit (withPorts u p) = withPorts (nextBit u) p := by
  rw [nextBit, nextBit, apply_dite (withPorts · p)]; rfl

theorem settleAndSample_withPorts_of_pinI (hpin : p.pinI = s.pinSample) :
    settleAndSample (withPorts s p) = (settleAndSample s).withPorts p := by
  by_cases htmr : s.tmr.toNat = 39
  · rw [settleAndSample_of_last htmr, settleAndSample_of_last (s := withPorts s p) htmr,
      show (withPorts s p).pinSample = s.pinSample from hpin]
    rfl
  · exact settleAndSample_withPorts p htmr

/-- Two samples of one line level lead to the same action, row by row of R134's table. -/
theorem sequencer_withPorts_of_pinI (hpin : p.pinI = s.pinSample) :
    sequencer (withPorts s p) = (sequencer s).withPorts p := by
  cases h : s.phase <;> have hp : (withPorts s p).phase = _ := h
  case waitResp => rw [sequencer_waitResp h, sequencer_waitResp hp]; exact awaitLevel_withPorts hpin (fun _ => rfl) _ _ _
  case waitAckLow =>
    rw [sequencer_waitAckLow h, sequencer_waitAckLow hp]; exact awaitLevel_withPorts hpin (fun _ => rfl) _ _ _
  case waitAckHigh =>
    rw [sequencer_waitAckHigh h, sequencer_waitAckHigh hp]; exact awaitLevel_withPorts hpin (fun _ => rfl) _ _ _
  case bitWaitLow =>
    rw [sequencer_bitWaitLow h, sequencer_bitWaitLow hp]; exact awaitLevel_withPorts hpin (fun _ => rfl) _ _ _
  case bitSettle => rw [sequencer_bitSettle h, sequencer_bitSettle hp]; exact settleAndSample_withPorts_of_pinI hpin
  case bitWaitHigh =>
    rw [sequencer_bitWaitHigh h, sequencer_bitWaitHigh hp]; exact awaitLevel_withPorts hpin nextBit_withPorts _ _ _
  all_goals exact sequencer_withPorts (by simp [IgnoresLine, h]) p

/-- Two states that show the same action agree on every register but `NOW`, and on the `done`. -/
theorem agree_of_shows {a : Action} {t u : State} (ht : Shows a t) (hu : Shows a u) :
    SameWorking t u ∧ SameSession t u ∧ u.out.doneValid = t.out.doneValid ∧ u.out.doneCode = t.out.doneCode := by
  refine ⟨?_, ?_, hu.doneValid.trans ht.doneValid.symm, hu.doneCode.trans ht.doneCode.symm⟩
  · obtain ⟨hphase, htmr, hidx, hbits⟩ := ht.working
    simpa only [SameWorking, hphase, htmr, hidx, hbits] using hu.working
  · obtain ⟨hresult, hframe, hhum, htemp, htime, hvalid⟩ := ht.session
    simpa only [SameSession, SameCache, hresult, hframe, hhum, htemp, htime, hvalid] using hu.session

/-- Samples placed without reset are a tick without reset. -/
theorem ticks_withPorts (s : State) (hrst : p.rst = false) : ∃ t, Ticks (withPorts s p) t :=
  let ⟨t, ht⟩ := everyStepHasANextState (withPorts s p)
  ⟨t, hrst, ht⟩

/-- Settles O34: both ticks show the sequencer's action, which is the same under two samples of one line level. -/
theorem commandsCannotDisturbATransaction : Obligations.CommandsCannotDisturbATransaction := by
  intro s p q hbusy hp hq hpin
  obtain ⟨t, ht⟩ := ticks_withPorts s hp
  obtain ⟨u, hu⟩ := ticks_withPorts s hq
  have hseq : sequencer (withPorts s q) = (sequencer (withPorts s p)).withPorts q :=
    sequencer_withPorts_of_pinI (s := withPorts s p) hpin.symm
  have hshows_u := shows_of_ticks hu hbusy
  rw [hseq] at hshows_u
  obtain ⟨hworking, hsession, hvalid, hcode⟩ := agree_of_shows (shows_of_ticks ht hbusy)
    ⟨hshows_u.working, hshows_u.session, hshows_u.doneValid, hshows_u.doneCode⟩
  have hnow : u.now = t.now := (everyTickCountsNow _ u hu).1.trans (everyTickCountsNow _ t ht).1.symm
  exact ⟨t, u, ht.2, hu.2, ⟨hworking, hsession, hnow⟩, hvalid, hcode⟩

end CommandIndependence

section TicksLeft

/-- The most ticks from the start of a phase to the `done`, that tick included, when the bit in progress is the last: the sum of
`phaseTicks` over the phases to come (R135). -/
def ticksFrom (c : Params) : Phase → Nat
  | .idle => 0
  | .startSettle => c.tSettle + (startLowTicks c + 441)
  | .startLow => startLowTicks c + 441
  | .startRelease => 441
  | .waitResp => 411
  | .waitAckLow => 370
  | .waitAckHigh => 269
  | .bitWaitLow => 168
  | .bitSettle => 92
  | .bitWaitHigh => 52
  | .check => 1

/-- The most ticks from the start of the phase of `s` to the `done`: every bit still to come takes at most 76 + 40 + 51 ticks. -/
def ticksFromPhase (s : State) : Nat := ticksFrom s.cfg s.phase + 167 * (39 - s.bitIdx.val)

/-- The most ticks that the transaction of `s` can still take, the tick of its `done` included. -/
def ticksLeft (s : State) : Nat := ticksFromPhase s - s.tmr.toNat

/-- The transaction goes on in the tick from `s` to `t`, and has fewer ticks left. -/
structure GoesOn (s t : State) : Prop where
  noDone : NoDone t
  busy : t.phase ≠ .idle
  ticksLeft_lt : ticksLeft t < ticksLeft s

/-- The tick that led to `t` ended a transaction (R182): it reports `LAST_RESULT`, and the sequencer is at rest. -/
structure Ended (t : State) : Prop where
  doneValid : t.out.doneValid = true
  doneCode : t.out.doneCode = t.lastResult.code
  atRest : AtRest t

variable {s t : State}

/-- No phase lasts longer than `TMR` can count (R11, R23). -/
theorem phaseTicks_lt {c : Params} (h : c.wellFormed = true) (p : Phase) : phaseTicks c p < 2 ^ 32 := by
  simp only [Params.wellFormed, Config.legalTicks, Bool.and_eq_true, decide_eq_true_eq] at h
  obtain ⟨⟨⟨⟨-, hsettle⟩, ⟨-, hv11⟩⟩, ⟨-, hv22⟩⟩, -⟩ := h
  cases p
  case startSettle => exact hsettle
  case startLow => rw [phaseTicks, startLowTicks]; split <;> assumption
  all_goals simp [phaseTicks]

theorem phaseTicks_le_ticksFrom (c : Params) {p : Phase} (h : p ≠ .idle) : phaseTicks c p ≤ ticksFrom c p := by
  cases p
  case idle => exact absurd rfl h
  all_goals simp [phaseTicks, ticksFrom]

/-- In a transaction the tick of the `done` is still to come. -/
theorem tmr_lt_ticksFromPhase (hs : MachineInv s) (hbusy : s.phase ≠ .idle) : s.tmr.toNat < ticksFromPhase s :=
  hs.tmrBounded.trans_le ((phaseTicks_le_ticksFrom s.cfg hbusy).trans (Nat.le_add_right _ _))

/-- A tick that counts lowers the number of ticks left by one. -/
theorem goesOn_of_count (hs : MachineInv s) (hbusy : s.phase ≠ .idle) (hcfg : t.cfg = s.cfg) (hquiet : NoDone t)
    (hphase : t.phase = s.phase) (htmr : t.tmr = s.tmr + 1#32) (hidx : t.bitIdx = s.bitIdx) : GoesOn s t where
  noDone := hquiet
  busy := hphase ▸ hbusy
  ticksLeft_lt := by
    have hbound : s.tmr.toNat + 1 < 2 ^ 32 := Nat.lt_of_le_of_lt hs.tmrBounded (phaseTicks_lt hs.cfgLegal s.phase)
    have hlt := tmr_lt_ticksFromPhase hs hbusy
    have hsucc : t.tmr.toNat = s.tmr.toNat + 1 := by
      rw [htmr, BitVec.toNat_add]
      exact Nat.mod_eq_of_lt hbound
    have hsame : ticksFromPhase t = ticksFromPhase s := by rw [ticksFromPhase, hcfg, hphase, hidx, ticksFromPhase]
    rw [ticksLeft, ticksLeft, hsame, hsucc]
    omega

/-- A tick that enters a phase from which there is less to come than the phase left could take. -/
theorem goesOn_of_enter (hs : MachineInv s) (hquiet : NoDone t) (hbusy : t.phase ≠ .idle) (htmr : t.tmr = 0)
    (hle : phaseTicks s.cfg s.phase + ticksFromPhase t ≤ ticksFromPhase s) : GoesOn s t where
  noDone := hquiet
  busy := hbusy
  ticksLeft_lt := by
    have hlt := hs.tmrBounded
    have hzero : t.tmr.toNat = 0 := by rw [htmr]; rfl
    rw [ticksLeft, ticksLeft, hzero]
    omega

end TicksLeft

section OneTickOfATransaction

variable {s t : State} {level : Level} {duration budget : Nat} {e : ResultCode} {next : Phase}

/-- The timed phases follow each other (R122 to R124). -/
theorem ticksFrom_of_timedRow {c : Params} {p : Phase} (h : TimedRow c p duration next) :
    next ≠ .idle ∧ ticksFrom c p = phaseTicks c p + ticksFrom c next := by
  obtain ⟨rfl, -, rfl⟩ | ⟨rfl, -, rfl⟩ | ⟨rfl, -, rfl⟩ := h <;> exact ⟨by simp, rfl⟩

theorem goesOn_of_timedRow (hs : MachineInv s) (h : Ticks s t) (hrow : TimedRow s.cfg s.phase duration next) : GoesOn s t := by
  obtain ⟨hnext, hfrom⟩ := ticksFrom_of_timedRow hrow
  obtain ⟨hmove, hidx, -, -, ⟨-, hcfg, -, -⟩, hquiet⟩ := timedPhasesCountOrMoveOn s t duration next h hrow
  split at hmove <;> obtain ⟨hphase, htmr⟩ := hmove
  · refine goesOn_of_enter hs hquiet (hphase ▸ hnext) htmr ?_
    rw [ticksFromPhase, ticksFromPhase, hcfg, hphase, hidx, hfrom, Nat.add_assoc]
  · exact goesOn_of_count hs (timedRow_order hrow).1 hcfg hquiet hphase htmr hidx

/-- The phases before the last wait of a bit follow each other, with the same bits still to come. -/
theorem ticksFrom_of_waitRow {c : Params} (hrow : WaitRow s.phase level budget e) (hne : s.phase ≠ .bitWaitHigh) :
    phaseAfterWait s ≠ .idle ∧ ticksFrom c s.phase = phaseTicks c s.phase + ticksFrom c (phaseAfterWait s) := by
  obtain ⟨h, -⟩ | ⟨h, -⟩ | ⟨h, -⟩ | ⟨h, -⟩ | ⟨h, -⟩ := hrow
  case inr.inr.inr.inr => exact absurd h hne
  all_goals rw [phaseAfterWait, h]; exact ⟨by simp, rfl⟩

/-- The end of a bit's high pulse leads to `CHECK`, or to the next bit with one bit less to come (R130). -/
theorem ticksFromPhase_of_bit_ends (hhigh : s.phase = .bitWaitHigh) (h : LeftWait s t) :
    t.phase ≠ .idle ∧ phaseTicks s.cfg s.phase + ticksFromPhase t = ticksFromPhase s := by
  have hphase : t.phase = if s.bitIdx = 39 then .check else .bitWaitLow := h.phase.trans (by rw [phaseAfterWait, hhigh])
  have hidx := h.bitIdx
  by_cases hlast : s.bitIdx = 39
  · rw [if_pos hlast] at hphase
    rw [if_neg fun hnext => hnext.2 hlast] at hidx
    simp only [ticksFromPhase, hphase, hidx, hhigh, phaseTicks, ticksFrom]
    exact ⟨by simp, by omega⟩
  · rw [if_neg hlast] at hphase
    rw [if_pos ⟨hhigh, hlast⟩] at hidx
    simp only [ticksFromPhase, hphase, hidx, hhigh, phaseTicks, ticksFrom]
    exact ⟨by simp, by omega⟩

/-- The end of a wait leads to a phase of the transaction, from which there is less to come by what the wait could take. -/
theorem ticksFromPhase_of_leftWait (hrow : WaitRow s.phase level budget e) (hcfg : t.cfg = s.cfg) (h : LeftWait s t) :
    t.phase ≠ .idle ∧ phaseTicks s.cfg s.phase + ticksFromPhase t = ticksFromPhase s := by
  by_cases hhigh : s.phase = .bitWaitHigh
  · exact ticksFromPhase_of_bit_ends hhigh h
  · obtain ⟨hbusy, hfrom⟩ := ticksFrom_of_waitRow (c := s.cfg) hrow hhigh
    have hidx := h.bitIdx
    rw [if_neg fun hnext => hhigh hnext.1] at hidx
    rw [ticksFromPhase, ticksFromPhase, hcfg, h.phase, hidx, hfrom, Nat.add_assoc]
    exact ⟨hbusy, rfl⟩

/-- A failure ends the transaction (R204). -/
theorem ended_of_failedWith (h : FailedWith s t e) : Ended t := by
  obtain ⟨hresult, hrest, -, hvalid, hcode⟩ := h
  exact ⟨hvalid, hresult ▸ hcode, hrest⟩

theorem endedOrGoesOn_of_waitRow (hs : MachineInv s) (h : Ticks s t) (hrow : WaitRow s.phase level budget e) :
    Ended t ∨ GoesOn s t := by
  obtain ⟨⟨-, hcfg, -, -⟩, hleft, hfail, hcount⟩ := waitingPhasesFollowAwaitLevel s t level budget e h hrow
  by_cases hpin : s.pinSample = level
  · by_cases htmr : s.tmr.toNat = budget
    · exact .inl (ended_of_failedWith (hfail hpin htmr))
    · obtain ⟨hphase, htmr, hidx, -, -, hquiet⟩ := hcount hpin htmr
      exact .inr (goesOn_of_count hs (waitRow_ticks hrow s.cfg).1 hcfg hquiet hphase htmr hidx)
  · obtain ⟨hphase, htmr, hbits, hsession, hquiet, hidx⟩ := hleft hpin
    obtain ⟨hbusy, hsum⟩ := ticksFromPhase_of_leftWait hrow hcfg ⟨hphase, htmr, hidx, hbits, hsession⟩
    exact .inr (goesOn_of_enter hs hquiet hbusy htmr hsum.le)

theorem goesOn_of_bitSettle (hs : MachineInv s) (h : Ticks s t) (hphase : s.phase = .bitSettle) : GoesOn s t := by
  obtain ⟨⟨-, hcfg, -, -⟩, -, hquiet, hidx, hlast, hcount⟩ := bitSettleSamplesOnItsLastTick s t h hphase
  by_cases htmr : s.tmr.toNat = 39
  · obtain ⟨htphase, httmr, -⟩ := hlast htmr
    refine goesOn_of_enter hs hquiet (by simp [htphase]) httmr ?_
    rw [ticksFromPhase, ticksFromPhase, hcfg, htphase, hphase, hidx, ← Nat.add_assoc]
    exact le_rfl
  · obtain ⟨htphase, httmr, -⟩ := hcount htmr
    exact goesOn_of_count hs (by simp [hphase]) hcfg hquiet (htphase.trans hphase.symm) httmr hidx

/-- The `CHECK` tick ends the transaction, whatever the verdict (R159). -/
theorem ended_of_check (h : Ticks s t) (hphase : s.phase = .check) : Ended t := by
  have hshows := shows_of_ticks h (by simp [hphase])
  rw [sequencer_check hphase] at hshows
  obtain ⟨-, h'⟩ | ⟨-, h'⟩ := checkFrame_cases s <;> rw [h'] at hshows
  · obtain ⟨hresult, -⟩ := hshows.session
    exact ⟨hshows.doneValid, hresult ▸ hshows.doneCode, hshows.working⟩
  · exact ended_of_failedWith (failedWith_of_shows_raise hshows ⟨rfl, rfl, rfl, rfl, rfl⟩)

/-- A tick of a transaction ends it or lowers the number of ticks left, whatever line and host do (R134, R135). -/
theorem endedOrGoesOn_of_busy (hs : MachineInv s) (h : Ticks s t) (hbusy : s.phase ≠ .idle) : Ended t ∨ GoesOn s t := by
  cases hphase : s.phase
  case idle => exact absurd hphase hbusy
  case startSettle => exact .inr (goesOn_of_timedRow hs h (.inl ⟨hphase, rfl, rfl⟩))
  case startLow => exact .inr (goesOn_of_timedRow hs h (.inr (.inl ⟨hphase, rfl, rfl⟩)))
  case startRelease => exact .inr (goesOn_of_timedRow hs h (.inr (.inr ⟨hphase, rfl, rfl⟩)))
  case bitSettle => exact .inr (goesOn_of_bitSettle hs h hphase)
  case check => exact .inl (ended_of_check h hphase)
  case waitResp => exact endedOrGoesOn_of_waitRow hs h (.inl ⟨hphase, rfl, rfl, rfl⟩)
  case waitAckLow => exact endedOrGoesOn_of_waitRow hs h (.inr (.inl ⟨hphase, rfl, rfl, rfl⟩))
  case waitAckHigh => exact endedOrGoesOn_of_waitRow hs h (.inr (.inr (.inl ⟨hphase, rfl, rfl, rfl⟩)))
  case bitWaitLow => exact endedOrGoesOn_of_waitRow hs h (.inr (.inr (.inr (.inl ⟨hphase, rfl, rfl, rfl⟩))))
  case bitWaitHigh => exact endedOrGoesOn_of_waitRow hs h (.inr (.inr (.inr (.inr ⟨hphase, rfl, rfl, rfl⟩))))

end OneTickOfATransaction

section BoundedTransactions

/-- From `s` the transaction ends in the tick of offset `n`, and in no tick before it. -/
structure EndsAt (n : Nat) (s : State) : Prop where
  before : ∀ m, m < n → ∃ u, run (m + 1) s = .next u ∧ NoDone u ∧ u.phase ≠ .idle
  last : ∃ t, run (n + 1) s = .next t ∧ MachineInv t ∧ Ended t

variable {s t : State} {n : Nat}

theorem endsAt_zero (hstep : step s = .next t) (ht : MachineInv t) (hend : Ended t) : EndsAt 0 s :=
  ⟨fun _ hm => absurd hm (Nat.not_lt_zero _), t, run_succ 0 hstep, ht, hend⟩

theorem EndsAt.succ (h : EndsAt n t) (hstep : step s = .next t) (hquiet : NoDone t) (hbusy : t.phase ≠ .idle) :
    EndsAt (n + 1) s where
  before
    | 0, _ => ⟨t, run_succ 0 hstep, hquiet, hbusy⟩
    | m + 1, hm => by rw [run_succ (m + 1) hstep]; exact h.before m (Nat.lt_of_succ_lt_succ hm)
  last := by rw [run_succ (n + 1) hstep]; exact h.last

/-- A transaction ends within its ticks left, by induction on a bound of them (R135). -/
theorem endsAt_of_busy {bound : Nat} (hs : MachineInv s) (hbusy : s.phase ≠ .idle) (hbound : ticksLeft s ≤ bound)
    (hreset : NoReset s bound) : ∃ n, n < bound ∧ EndsAt n s := by
  induction bound generalizing s with
  | zero =>
    have hlt : 0 < ticksLeft s := Nat.sub_pos_of_lt (tmr_lt_ticksFromPhase hs hbusy)
    omega
  | succ bound ih =>
    obtain ⟨t, htick, hreset_t⟩ := ticks_of_noReset_succ hreset
    have ht : MachineInv t := everyStepKeepsTheInvariant s t hs htick.2
    obtain hend | hgoes := endedOrGoesOn_of_busy hs htick hbusy
    · exact ⟨0, bound.succ_pos, endsAt_zero htick.2 ht hend⟩
    · have hfewer := hgoes.ticksLeft_lt
      obtain ⟨n, hn, hends⟩ := ih ht hgoes.busy (by omega) hreset_t
      exact ⟨n + 1, Nat.succ_lt_succ hn, hends.succ htick.2 hgoes.noDone hgoes.busy⟩

/-- From the start of a transaction the bound of R135 is left. -/
theorem ticksLeft_of_started (hphase : t.phase = .startSettle) (htmr : t.tmr = 0) (hidx : t.bitIdx = 0) :
    ticksLeft t = transactionBound t.cfg := by
  have hzero : t.tmr.toNat = 0 := by rw [htmr]; rfl
  rw [ticksLeft, ticksFromPhase, hphase, hidx, hzero, ticksFrom, transactionBound]
  simp
  omega

/-- Settles O51: the tick of the `READ` starts a transaction with the bound of R135 left, and every tick after it
lowers what is left. -/
theorem everyTransactionEndsInOneDone : Obligations.EveryTransactionEndsInOneDone := by
  intro s hs hidle ⟨hvalid, hop⟩ hout hreset
  obtain ⟨u, htick, hreset_u⟩ := ticks_of_noReset_succ hreset
  obtain ⟨t, hexec, -, -, -, hquiet, hphase, htmr, hidx, -, -, ⟨-, hcfg, -, -⟩, -, -⟩ := readStartsATransaction s hidle hout
  have hstep : step s = .next t := (stepRunsTheDecodedCommand s .read htick.1 hvalid (by rw [hop]; rfl) rfl).trans hexec
  obtain rfl : u = t := by simpa [hstep] using htick.2.symm
  have hbusy : u.phase ≠ .idle := by simp [hphase]
  obtain ⟨n, hn, hends⟩ := endsAt_of_busy (everyStepKeepsTheInvariant s u hs hstep) hbusy
    (by rw [ticksLeft_of_started hphase htmr hidx, hcfg]) hreset_u
  obtain ⟨hbefore, t, hrun, ht, hend⟩ := hends.succ hstep hquiet hbusy
  exact ⟨n + 1, n.succ_pos, hn, hbefore, t, hrun, hend.doneValid, hend.doneCode ▸ code_le_five_of_inUse ht.resultInUse,
    hend.doneCode, hend.atRest⟩

end BoundedTransactions

end Sys2Proof.Machine

/-! SUPPORT. Proofs of the frame family: the packed frame as the bits of the accumulator in arrival order, the verdict and the decode
over numbers, the `CHECK` tick, and the run of a whole answer of the sensor from the first tick of `WAIT_RESP`. -/

namespace Sys2Proof.Machine

open Sys2Proof.Safety

section PackedFrame

variable (bits : Vector Bool 40)

/-- The eight cells of a byte, the first to arrive as the most significant bit (R150). -/
def byteCells (n : Fin 5) : Byte := BitVec.ofFnBE fun j : Fin 8 => bits[8 * n.val + j.val]

/-- The weighted sum of eight cells is the number with these bits: no weight is lost in a byte. The second form doubles the number
for every cell that arrives. -/
theorem toNat_byteCells (n : Fin 5) :
    (byteCells bits n).toNat =
      bits[8 * n.val].toNat * 128 + bits[8 * n.val + 1].toNat * 64 + bits[8 * n.val + 2].toNat * 32
        + bits[8 * n.val + 3].toNat * 16 + bits[8 * n.val + 4].toNat * 8 + bits[8 * n.val + 5].toNat * 4
        + bits[8 * n.val + 6].toNat * 2 + bits[8 * n.val + 7].toNat := by
  rw [byteCells, BitVec.toNat_ofFnBE]
  calc _ = 2 * (2 * (2 * (2 * (2 * (2 * (2 * (2 * 0 + bits[8 * n.val].toNat) + bits[8 * n.val + 1].toNat)
          + bits[8 * n.val + 2].toNat) + bits[8 * n.val + 3].toNat) + bits[8 * n.val + 4].toNat)
          + bits[8 * n.val + 5].toNat) + bits[8 * n.val + 6].toNat) + bits[8 * n.val + 7].toNat := rfl
    _ = _ := by omega

theorem packByte_eq_byteCells (n : Fin 5) : packByte bits n = byteCells bits n := by
  rw [packByte, ← toNat_byteCells, BitVec.ofNat_toNat, BitVec.setWidth_eq]

/-- The bytes of the packed frame are the packed bytes (R150, R88). -/
theorem frameByte_pack (n : Fin 5) : frameByte (pack bits) n = packByte bits n := by
  have head {w : Nat} {x : Byte} {y : BitVec w} : (x ++ y).extractLsb' w 8 = x := BitVec.extractLsb'_append_eq_left
  have tail {w k : Nat} {x b : Byte} {y : BitVec w} (hk : k + 8 ≤ w) (h : y.extractLsb' k 8 = b) :
      (x ++ y).extractLsb' k 8 = b := (BitVec.extractLsb'_append_eq_of_add_le hk).trans h
  match n with
  | 0 => exact head
  | 1 => exact tail (by decide) head
  | 2 => exact tail (by decide) (tail (by decide) head)
  | 3 => exact tail (by decide) (tail (by decide) (tail (by decide) head))
  | 4 => exact tail (by decide) (tail (by decide) (tail (by decide) BitVec.extractLsb'_append_eq_right))

/-- Cell `i` is bit `39 - i` of the packed frame: both are bit `7 - i % 8` of byte `i / 8` (R150). -/
theorem getLsbD_pack {i : Nat} (hi : i < 40) : (pack bits).getLsbD (39 - i) = bits[i] := by
  obtain ⟨n, j, rfl⟩ : ∃ (n : Fin 5) (j : Fin 8), i = 8 * n.val + j.val :=
    ⟨⟨i / 8, by omega⟩, ⟨i % 8, by omega⟩, (Nat.div_add_mod i 8).symm⟩
  have hpos : 39 - (8 * n.val + j.val) = 32 - 8 * n.val + (7 - j.val) := by omega
  calc (pack bits).getLsbD (39 - (8 * n.val + j.val))
      = (frameByte (pack bits) n).getLsbD (7 - j.val) := by
        rw [frameByte, BitVec.getLsbD_extractLsb', hpos]
        simp only [Bool.eq_and_self, decide_eq_true_eq]
        omega
    _ = (byteCells bits n).getMsbD j.val := by
        rw [frameByte_pack, packByte_eq_byteCells]
        simp [BitVec.getMsbD]
    _ = bits[8 * n.val + j.val] := by simp [byteCells, BitVec.getMsbD_ofFnBE]

/-- A frame whose bits are the cells is the packed frame (R150). -/
theorem pack_eq_of_cells {f : BitVec 40} (h : ∀ i : Fin 40, bits[i.val] = f.getLsbD (39 - i.val)) : pack bits = f := by
  refine BitVec.eq_of_getLsbD_eq fun i hi => ?_
  have hcell := getLsbD_pack bits (i := 39 - i) (by omega)
  rw [h ⟨39 - i, by omega⟩] at hcell
  rwa [show 39 - (39 - i) = i by omega] at hcell

/-- Settles O37: the bits by `getLsbD_pack`, the bytes because the frame's bytes are the packed ones. -/
theorem packKeepsArrivalOrder : Obligations.PackKeepsArrivalOrder := by
  intro bits
  refine ⟨fun i => getLsbD_pack bits i.isLt, fun n => ?_⟩
  rw [← toNat_frameByte, frameByte_pack, packByte_eq_byteCells, toNat_byteCells]

end PackedFrame

section DecodedFrame

/-- Settles O38: the sum of bytes wraps at 256. -/
theorem verifyComparesTheSumModulo256 : Obligations.VerifyComparesTheSumModulo256 := frameValid_iff_checksumHolds

/-- Settles O39: the decode over numbers, with bytes below 256. -/
theorem decodedValuesFitTheirRegisters : Obligations.DecodedValuesFitTheirRegisters := by
  intro v f
  refine ⟨readingOf_decoded f v, ?_⟩
  have h0 := byteOf_lt f 0
  have h1 := byteOf_lt f 1
  have h2 := byteOf_lt f 2
  have h3 := byteOf_lt f 3
  cases v with
  | v11 =>
    rw [humidityTenths_v11, temperatureTenths_v11]
    dsimp only
    omega
  | v22 =>
    rw [humidityTenths_v22, temperatureTenths_v22]
    dsimp only
    split <;> omega

/-- Settles O23: the tick shows the sequencer's action, which is the commit of a valid frame and `raise` otherwise. -/
theorem checkCommitsOrRaises : Obligations.CheckCommitsOrRaises := by
  intro s t htick hphase
  have hshows := shows_of_ticks htick (by simp [hphase])
  rw [sequencer_check hphase] at hshows
  refine ⟨everyTickCountsNow s t htick, ?_⟩
  rw [← frameValid_iff_checksumHolds]
  obtain ⟨hvalid, h⟩ | ⟨hvalid, h⟩ := checkFrame_cases s <;> rw [h] at hshows
  · obtain ⟨hresult, hframe, hhum, htemp, htime, hok⟩ := hshows.session
    refine ⟨fun _ => ⟨hframe, ?_, htime, hok, hresult, hshows.working, done_of_shows hshows rfl⟩,
      fun hnot => absurd hvalid hnot⟩
    rw [hhum, htemp]
    exact readingOf_decoded (pack s.bits) s.cfg.variant
  · exact ⟨fun htrue => by simp [hvalid] at htrue,
      fun _ => failedWith_of_shows_raise hshows ⟨rfl, rfl, rfl, rfl, rfl⟩⟩

end DecodedFrame

section LinesOfLevels

/-- The coming ticks of `s`, as many as `w` is long, are without reset and show the levels of `w` on the line. -/
structure ShowsLine (w : List Level) (s : State) : Prop where
  noReset : NoReset s w.length
  pin : ∀ k (h : k < w.length), (portsAt s k).pinI = w[k]

/-- From `s` with the line `w` to come, one tick per level leads to `t` with the end `v` of `w` to come. -/
structure RunsAlong (w v : List Level) (s t : State) : Prop where
  runsTo : ∃ n, n + v.length = w.length ∧ RunsTo n s t
  line : ShowsLine v t

variable {a v w : List Level} {s t u : State} {n : Nat}

/-- After as many ticks as a line's first part is long, the second part is to come. -/
theorem ShowsLine.after (h : ShowsLine (a ++ v) s) (hrun : RunsTo a.length s t) : ShowsLine v t where
  noReset := hrun.noReset (List.length_append ▸ h.noReset)
  pin k hk := by
    have hlt : a.length + k < (a ++ v).length := by rw [List.length_append]; exact Nat.add_lt_add_left hk _
    rw [hrun.ports_eq, h.pin _ hlt, List.getElem_append_right (Nat.le_add_right _ _)]
    simp

theorem ShowsLine.runsAlong (h : ShowsLine (a ++ v) s) (ha : a.length = n) (hrun : RunsTo n s t) : RunsAlong (a ++ v) v s t where
  runsTo := ⟨n, by rw [List.length_append, ha], hrun⟩
  line := h.after (ha ▸ hrun)

theorem RunsAlong.trans (hst : RunsAlong w v s t) (htu : RunsAlong v a t u) : RunsAlong w a s u where
  runsTo := by
    obtain ⟨m, hm, hrun_t⟩ := hst.runsTo
    obtain ⟨n, hn, hrun_u⟩ := htu.runsTo
    exact ⟨m + n, by omega, hrun_t.trans hrun_u⟩
  line := htu.line

theorem ShowsLine.noReset_of_le (h : ShowsLine w s) (hle : n ≤ w.length) : NoReset s n := Machine.noReset_of_le h.noReset hle

/-- The levels of a first part that stays are on the line at its offsets. -/
theorem ShowsLine.pin_replicate {level : Level} (h : ShowsLine (List.replicate n level ++ v) s) (k : Nat) (hk : k < n) :
    (portsAt s k).pinI = level := by
  rw [h.pin k (by rw [List.length_append, List.length_replicate]; omega), List.getElem_append_left (by simpa using hk),
    List.getElem_replicate]

/-- The level after a part of `n` ticks is on the line at offset `n`. -/
theorem ShowsLine.pin_next {b : Level} (h : ShowsLine (a ++ b :: v) s) (ha : a.length = n) : (portsAt s n).pinI = b := by
  rw [h.pin n (by simp [ha]), List.getElem_append_right ha.le]
  simp [ha]

/-- A waiting phase takes the line up to the first other level, if that comes within its budget (R112). -/
theorem runsAlong_of_wait_ends {level : Level} {budget : Nat} {e : ResultCode} (hrow : WaitRow s.phase level budget e)
    (htmr : s.tmr = 0) (hn : n ≤ budget) (hline : ShowsLine (List.replicate n level ++ (!level) :: v) s) :
    ∃ t, RunsAlong (List.replicate n level ++ (!level) :: v) v s t ∧ LeftWait s t := by
  obtain ⟨next, hseq, hleft⟩ := sequencer_of_waitRow hrow
  have hother : (portsAt s n).pinI ≠ level := by
    rw [hline.pin_next List.length_replicate]
    simp
  obtain ⟨u, t, hcounted, hrun, hshows⟩ := runsTo_of_wait_ends hseq (waitRow_ticks hrow s.cfg).1 htmr hn
    (waitRow_budget_lt hrow) (hline.noReset_of_le (by simp)) hline.pin_replicate hother
  rw [List.append_cons] at hline ⊢
  exact ⟨t, hline.runsAlong (by simp) hrun, .of_counted hcounted ((hleft u hcounted.phase).of_shows hshows)⟩

end LinesOfLevels

section WaveOfAFrame

/-- The line from the first high of a bit on, with `n` bits of the frame still to come: the pulse of each of them and the low of 50
ticks after it (95_test_vectors.md, opening). -/
def pulseWave (f : BitVec 40) : Nat → List Level
  | 0 => []
  | n + 1 => List.replicate (if f.getLsbD n then 70 else 28) true ++ (List.replicate 50 false ++ pulseWave f n)

/-- The low before each bit and the low that ends the frame are the lows around the pulses. -/
theorem bitWaves_eq_pulseWave (f : BitVec 40) (n : Nat) :
    (List.range n).flatMap (fun i => bitWave (f.getLsbD (n - 1 - i))) ++ List.replicate 50 false =
      List.replicate 50 false ++ pulseWave f n := by
  induction n with
  | zero => simp [pulseWave]
  | succ n ih =>
    have hshift (i : Nat) : n + 1 - 1 - (i + 1) = n - 1 - i := by omega
    simp only [List.range_succ_eq_map, List.flatMap_cons, List.flatMap_map, hshift, List.append_assoc, ih]
    simp only [bitWave, pulseWave, List.append_assoc, Nat.add_sub_cancel, Nat.sub_zero]

theorem frameWave_eq_pulseWave (f : BitVec 40) : frameWave f = List.replicate 50 false ++ pulseWave f 40 :=
  bitWaves_eq_pulseWave f 40

/-- The answer of the sensor, cut after the first tick of each level that ends a wait. -/
theorem sensorWave_eq (f : BitVec 40) :
    sensorWave f = List.replicate 10 true ++ false :: (List.replicate 79 false ++ true :: (List.replicate 79 true ++
      false :: (List.replicate 49 false ++ pulseWave f 40))) := by
  rw [sensorWave, frameWave_eq_pulseWave]
  simp only [List.append_assoc]
  rfl

end WaveOfAFrame

section DeliveredBits

variable {f : BitVec 40} {a v : List Level} {b : Level} {s m t u : State} {n low : Nat}

/-- A bit of which 41 ticks lead to the sample and `n` more to the end of the high that follows it, if there is one (R128 to R130). -/
theorem runsAlong_of_bit (hphase : s.phase = .bitWaitLow) (hfirst : (portsAt s 0).pinI = true)
    (hsample : (portsAt s 40).pinI = b) (ha : a.length = 41) (hn : n ≤ 50)
    (hline : ShowsLine (a ++ (List.replicate n true ++ false :: v)) s) :
    ∃ m t, RunsAlong (a ++ (List.replicate n true ++ false :: v)) v s t ∧ Sampled b s m ∧ LeftWait m t := by
  obtain ⟨m, hrun, hsampled⟩ := runsTo_sampled hphase hfirst (hline.noReset_of_le (by simp [ha]))
  have hrest := hline.runsAlong ha hrun
  obtain ⟨t, hend, hleft⟩ := runsAlong_of_wait_ends (level := true) (.inr (.inr (.inr (.inr ⟨hsampled.phase, rfl, rfl, rfl⟩))))
    hsampled.tmr hn hrest.line
  exact ⟨m, t, hrest.trans hend, hsample ▸ hsampled, hleft⟩

/-- The pulse of a bit is received as that bit: a pulse of 70 ticks still stands at the sample and 29 ticks after it, one of 28
ticks has then been over for 12 ticks. What is left of the low after it is what `BIT_WAIT_LOW` sees of it. -/
theorem runsAlong_of_pulse (hphase : s.phase = .bitWaitLow)
    (hline : ShowsLine (List.replicate (if b then 70 else 28) true ++ (List.replicate 50 false ++ v)) s) :
    ∃ low m t, low ≤ 48 ∧
      RunsAlong (List.replicate (if b then 70 else 28) true ++ (List.replicate 50 false ++ v))
        (List.replicate (low + 1) false ++ v) s t ∧ Sampled b s m ∧ LeftWait m t := by
  have hfirst : (portsAt s 0).pinI = true := hline.pin_replicate 0 (by split <;> decide)
  cases b with
  | true =>
    have hsample : (portsAt s 40).pinI = true := hline.pin_replicate 40 (by decide)
    obtain ⟨m, t, h⟩ := runsAlong_of_bit (a := List.replicate 41 true) (n := 29) (v := List.replicate 49 false ++ v)
      hphase hfirst hsample rfl (by decide) hline
    exact ⟨48, m, t, le_rfl, h⟩
  | false =>
    have hsample : (portsAt s 40).pinI = false :=
      ShowsLine.pin_next (a := List.replicate 28 true ++ List.replicate 12 false) (v := List.replicate 37 false ++ v) hline rfl
    obtain ⟨m, t, h⟩ := runsAlong_of_bit (a := List.replicate 28 true ++ List.replicate 13 false) (n := 0)
      (v := List.replicate 36 false ++ v) hphase hfirst hsample rfl (by decide) hline
    exact ⟨35, m, t, by decide, h⟩

/-- `s` is at the start of a bit with `n` bits of `f` still to come, or in `CHECK` if there are none, and has the bits before them in
its cells. -/
structure Receiving (f : BitVec 40) (n : Nat) (s : State) : Prop where
  phase : s.phase = if n = 0 then .check else .bitWaitLow
  bitIdx : n ≠ 0 → s.bitIdx.val + n = 40
  cells : ∀ i : Fin 40, i.val + n < 40 → s.bits[i.val] = f.getLsbD (39 - i.val)

theorem Receiving.of_counted (h : Receiving f n s) (hcounted : CountedTo low s u) : Receiving f n u := by
  obtain ⟨⟨hphase, -, hidx, hbits⟩, -⟩ := hcounted
  exact ⟨hphase.trans h.phase, fun hn => by rw [hidx]; exact h.bitIdx hn,
    fun i hi => by simpa only [hbits, State.setTmr_bits] using h.cells i hi⟩

/-- With its next bit in its cell and the wait after it over, `s` receives the bits that are left (R130). -/
theorem Receiving.next (h : Receiving f (n + 1) s) (hsampled : Sampled (f.getLsbD n) s m) (hleft : LeftWait m t) :
    Receiving f n t where
  phase := by
    have hidx := h.bitIdx n.succ_ne_zero
    have hlast : s.bitIdx = 39 ↔ n = 0 := by rw [Fin.ext_iff]; simp; omega
    rw [hleft.phase, phaseAfterWait, hsampled.phase, hsampled.bitIdx]
    simp only [hlast]
  bitIdx hn := by
    have hidx := h.bitIdx n.succ_ne_zero
    have hmore : s.bitIdx ≠ 39 := by rw [Ne, Fin.ext_iff]; simp; omega
    rw [hleft.bitIdx, hsampled.bitIdx, if_pos ⟨hsampled.phase, hmore⟩]
    omega
  cells i hi := by
    have hidx := h.bitIdx n.succ_ne_zero
    simp only [hleft.bits, hsampled.bits, Vector.getElem_set]
    split
    · congr 1; omega
    · exact h.cells i (by omega)

/-- One bit of the wave: what is left of the low before it, then its pulse. -/
theorem runsAlong_of_next_bit (h : Receiving f (n + 1) s) (htmr : s.tmr = 0) (hlow : low ≤ 75)
    (hline : ShowsLine (List.replicate low false ++ pulseWave f (n + 1)) s) :
    ∃ low' t, low' ≤ 48 ∧
      RunsAlong (List.replicate low false ++ pulseWave f (n + 1)) (List.replicate (low' + 1) false ++ pulseWave f n) s t ∧
      Receiving f n t ∧ t.tmr = 0 ∧ SameSession s t := by
  have hphase : s.phase = .bitWaitLow := h.phase
  obtain ⟨u, hrun, hcounted⟩ := runsTo_of_waiting (fun _ hu => sequencer_bitWaitLow (hu.trans hphase)) (by simp [hphase]) htmr
    hlow (by decide) (hline.noReset_of_le (by simp)) hline.pin_replicate
  have hpulse := hline.runsAlong List.length_replicate hrun
  have hu := h.of_counted hcounted
  obtain ⟨low', m, t, hlow', hbit, hsampled, hleft⟩ := runsAlong_of_pulse hu.phase hpulse.line
  exact ⟨low', t, hlow', hpulse.trans hbit, hu.next hsampled hleft, hleft.tmr,
    sameSession_trans hcounted.2 (sameSession_trans hsampled.session hleft.session)⟩

/-- All bits that are left, by induction on their number: the run ends in `CHECK` with a tick of the last low still to come. -/
theorem runsAlong_of_bits (h : Receiving f n s) (htmr : s.tmr = 0) (hlow : low ≤ 48)
    (hline : ShowsLine (List.replicate (low + 1) false ++ pulseWave f n) s) :
    ∃ low' t, RunsAlong (List.replicate (low + 1) false ++ pulseWave f n) (List.replicate (low' + 1) false) s t ∧
      Receiving f 0 t ∧ SameSession s t := by
  induction n generalizing s low with
  | zero =>
    rw [pulseWave, List.append_nil] at hline ⊢
    exact ⟨low, s, ⟨⟨0, Nat.zero_add _, runsTo_zero s⟩, hline⟩, h, rfl, rfl, rfl, rfl, rfl, rfl⟩
  | succ n ih =>
    obtain ⟨low', u, hlow', hbit, hu, hutmr, hsession⟩ := runsAlong_of_next_bit h htmr (by omega) hline
    obtain ⟨low'', t, hrest, ht, hsession'⟩ := ih hu hutmr hlow' hbit.line
    exact ⟨low'', t, hbit.trans hrest, ht, sameSession_trans hsession hsession'⟩

/-- The answer before the first bit: the three waits of R125 to R127 end within their budgets, one tick into the first bit's low. -/
theorem runsAlong_of_answer (hphase : s.phase = .waitResp) (htmr : s.tmr = 0) (hidx : s.bitIdx = 0)
    (hline : ShowsLine (sensorWave f) s) :
    ∃ t, RunsAlong (sensorWave f) (List.replicate 49 false ++ pulseWave f 40) s t ∧ Receiving f 40 t ∧ t.tmr = 0 ∧
      SameSession s t := by
  rw [sensorWave_eq] at hline ⊢
  obtain ⟨u, hresp, hu⟩ := runsAlong_of_wait_ends (level := true) (.inl ⟨hphase, rfl, rfl, rfl⟩) htmr (by decide) hline
  have huphase : u.phase = .waitAckLow := by rw [hu.phase, phaseAfterWait, hphase]
  obtain ⟨v, hackLow, hv⟩ := runsAlong_of_wait_ends (level := false) (.inr (.inl ⟨huphase, rfl, rfl, rfl⟩)) hu.tmr (by decide)
    hresp.line
  have hvphase : v.phase = .waitAckHigh := by rw [hv.phase, phaseAfterWait, huphase]
  obtain ⟨t, hackHigh, ht⟩ := runsAlong_of_wait_ends (level := true) (.inr (.inr (.inl ⟨hvphase, rfl, rfl, rfl⟩))) hv.tmr
    (by decide) hackLow.line
  have htphase : t.phase = .bitWaitLow := by rw [ht.phase, phaseAfterWait, hvphase]
  have htidx : t.bitIdx.val = 0 := by
    simp [ht.bitIdx, hv.bitIdx, hu.bitIdx, hphase, huphase, hvphase, hidx]
  exact ⟨t, (hresp.trans hackLow).trans hackHigh, ⟨htphase, fun _ => by rw [htidx], fun i hi => by omega⟩, ht.tmr,
    sameSession_trans hu.session (sameSession_trans hv.session ht.session)⟩

/-- Settles O54: the answer leads through its 40 bits to `CHECK` with the frame in the cells, and the `CHECK` tick decides. -/
theorem deliveredFrameIsDecoded : Obligations.DeliveredFrameIsDecoded := by
  intro s f hphase htmr hidx hreset hpin
  obtain ⟨a, hanswer, ha, hatmr, hsession_a⟩ := runsAlong_of_answer hphase htmr hidx ⟨hreset, hpin⟩
  obtain ⟨low, c, hbits, hc, hsession_c⟩ := runsAlong_of_bits ha hatmr le_rfl hanswer.line
  have hwave := hanswer.trans hbits
  obtain ⟨n, hn, hrun⟩ := hwave.runsTo
  rw [List.length_replicate] at hn
  obtain ⟨t, htick, -⟩ := ticks_of_noReset_succ (hwave.line.noReset_of_le (n := 0 + 1) (by simp))
  obtain ⟨-, hvalid, hinvalid⟩ := checkCommitsOrRaises c t htick hc.phase
  rw [pack_eq_of_cells c.bits fun i => hc.cells i i.isLt] at hvalid hinvalid
  refine ⟨n + 1, t, by omega, (run_add n 1 hrun.run_eq).trans (run_succ 0 htick.2), ?_⟩
  by_cases hsum : ChecksumHolds f
  · obtain ⟨hframe, hreading, -, hok, hresult, hrest, hdone⟩ := hvalid hsum
    rw [run_cfg hrun.run_eq] at hreading
    exact ⟨hrest, fun _ => ⟨hdone, hresult, hframe, hok, hreading⟩, fun hnot => absurd hsum hnot⟩
  · have hfailed := failedWith_of_sameCache (sameSession_trans hsession_a hsession_c).2 (hinvalid hsum)
    exact ⟨hfailed.2.1, fun h => absurd h hsum, fun _ => hfailed⟩

end DeliveredBits

end Sys2Proof.Machine

/-! SUPPORT. Proofs of the host-command family: a command that only answers, the answer of each command, the rate-limited `READ`,
and the ticks that report a `done`. -/

namespace Sys2Proof.Machine

open Sys2Proof.Safety

section Answers

variable {s t : State} {e : CommandEffect} {i : Instr}

/-- The samples on the ports are no register, so an action shows the same with others in their place. -/
theorem Shows.of_withPorts {a : Action} {p : Inputs} (h : Shows (a.withPorts p) t) : Shows a t :=
  ⟨h.working, h.session, h.doneValid, h.doneCode⟩

/-- Without its command the tick is one in which the sequencer alone acts. -/
theorem step_quiet (s : State) : step (quiet s) = .next (tick (quiet s) noCommand) := rfl

/-- Without its command the tick shows the same action of the sequencer, which sees the line level alone (R34). -/
theorem shows_tick_quiet (s : State) : Shows (sequencer s) (tick (quiet s) noCommand) := by
  have hseq : sequencer (quiet s) = (sequencer s).withPorts _ := sequencer_withPorts_of_pinI rfl
  have hshows : Shows (sequencer (quiet s)) (tick (quiet s) noCommand) := shows_tick_of_silent rfl rfl
  exact (hseq ▸ hshows).of_withPorts

/-- A command that starts nothing and reports nothing only answers: its tick and the one without it show the same action (R170). -/
theorem onlyAnswers_of_silent (hstarts : e.starts = false) (hdone : e.done = none) : OnlyAnswers s (tick s e) := by
  have hshows : Shows (sequencer s) (tick s e) := shows_tick_of_silent hstarts hdone
  obtain ⟨hworking, hsession, hvalid, hcode⟩ := agree_of_shows (shows_tick_quiet s) hshows
  have hpassed := tickPassed_tick s e
  have hnow : (tick s e).now = (tick (quiet s) noCommand).now := hpassed.1.trans (tickPassed_tick (quiet s) noCommand).1.symm
  refine ⟨hpassed, ⟨_, step_quiet s, ⟨hworking, hsession, hnow⟩, ?_, ?_, ?_, ?_, hvalid, hcode⟩,
    fun hidle => stands_of_shows_idle hidle hshows⟩ <;> rw [tick_out, tick_out] <;> rfl

/-- A command whose effect is an acknowledgment gives it and does nothing else. -/
theorem exec_acknowledges {a : Ack} (h : commandEffect i s = acknowledge a) :
    ∃ t, exec i s = .next t ∧ t.out.cmdAck = a.code ∧ t.out.rspValid = false ∧ t.out.rspData = 0 ∧ OnlyAnswers s t := by
  refine ⟨_, exec_eq_tick i s, ?_⟩
  rw [h, tick_out]
  exact ⟨rfl, rfl, rfl, onlyAnswers_of_silent rfl rfl⟩

/-- A command whose effect is a response is accepted, gives it and does nothing else. -/
theorem exec_responds {v : BitVec 64} (h : commandEffect i s = respond v) :
    ∃ t, exec i s = .next t ∧ t.out.cmdAck = 1 ∧ t.out.rspValid = true ∧ t.out.rspData = v ∧ OnlyAnswers s t := by
  refine ⟨_, exec_eq_tick i s, ?_⟩
  rw [h, tick_out]
  exact ⟨rfl, rfl, rfl, onlyAnswers_of_silent rfl rfl⟩

end Answers

section StatusImage

variable {v w k len : Nat} {b : Bool} (s : State)

/-- A field of a register image that lies in its lower part is the field of that part. -/
theorem field_lower {x : BitVec v} {y : BitVec w} {f : BitVec len} (h : y.extractLsb' k len = f)
    (hk : k + len ≤ w := by decide) : (x ++ y).extractLsb' k len = f := (BitVec.extractLsb'_append_eq_of_add_le hk).trans h

/-- A field of one bit. -/
theorem getLsbD_of_field {x : BitVec w} (h : x.extractLsb' k 1 = BitVec.ofBool b) : x.getLsbD k = b := by
  simpa using congrArg (·.getLsbD 0) h

theorem variantBit_eq (c : Variant) : variantBit c = BitVec.ofBool (decide (c = .v22)) := by cases c <;> rfl

/-! The fields of the status image (R37), from bit 63 down. -/

theorem statusImage_rest : (statusImage s).extractLsb' 13 51 = 0 := BitVec.extractLsb'_append_eq_left

theorem statusImage_bitIdx : ((statusImage s).extractLsb' 7 6).toNat = s.bitIdx.val := by
  have hfield : (statusImage s).extractLsb' 7 6 = BitVec.ofNat 6 s.bitIdx.val := field_lower BitVec.extractLsb'_append_eq_left
  rw [hfield]
  exact Nat.mod_eq_of_lt (s.bitIdx.isLt.trans (by decide))

theorem statusImage_phase : (statusImage s).extractLsb' 3 4 = s.phase.code :=
  field_lower (field_lower BitVec.extractLsb'_append_eq_left)

theorem statusImage_variant : (statusImage s).getLsbD 2 = decide (s.cfg.variant = .v22) := by
  refine getLsbD_of_field (Eq.trans ?_ (variantBit_eq s.cfg.variant))
  exact field_lower (field_lower (field_lower BitVec.extractLsb'_append_eq_left))

theorem statusImage_valid : (statusImage s).getLsbD 1 = s.lastOkValid :=
  getLsbD_of_field (field_lower (field_lower (field_lower (field_lower BitVec.extractLsb'_append_eq_left))))

theorem statusImage_busy : (statusImage s).getLsbD 0 = decide (s.phase ≠ .idle) := by
  rw [← s.busy_eq]
  exact getLsbD_of_field (field_lower (field_lower (field_lower (field_lower BitVec.extractLsb'_append_eq_right))))

end StatusImage

section CommandAnswers

/-- Settles O9: the effect of `NOP` is an acknowledgment. -/
theorem nopOnlyAcknowledges : Obligations.NopOnlyAcknowledges :=
  fun s => exec_acknowledges (i := .nop) (a := .accepted) (s := s) rfl

/-- Settles O16: the effect of a reserved word does not depend on its low bits. -/
theorem reservedWordsAreIllegal : Obligations.ReservedWordsAreIllegal :=
  fun x s => exec_acknowledges (i := .reserved x) (a := .illegal) (s := s) rfl

/-- Settles O10: the effect of `GETRES` is the response `resultImage`, the zero-extended code. -/
theorem getresAnswersLastResult : Obligations.GetresAnswersLastResult :=
  fun s => exec_responds (i := .getres) (s := s) rfl

/-- Settles O11: the response is `humidityImage`. -/
theorem gethumAnswersCachedHumidity : Obligations.GethumAnswersCachedHumidity :=
  fun s => exec_responds (i := .gethum) (s := s) rfl

/-- Settles O12: sign extension to a greater width keeps the signed value. -/
theorem gettempAnswersSignedTemperature : Obligations.GettempAnswersSignedTemperature := by
  intro s
  obtain ⟨t, hexec, hack, hvalid, hdata, honly⟩ := exec_responds (i := .gettemp) (s := s) rfl
  exact ⟨t, hexec, hack, hvalid, hdata, hdata ▸ BitVec.toInt_signExtend_of_le (by decide), honly⟩

/-- Settles O13: the response is `frameImage`. -/
theorem getframeAnswersLastFrame : Obligations.GetframeAnswersLastFrame :=
  fun s => exec_responds (i := .getframe) (s := s) rfl

/-- Settles O14: the response is `timeImage`. -/
theorem gettimeAnswersLastOkTime : Obligations.GettimeAnswersLastOkTime :=
  fun s => exec_responds (i := .gettime) (s := s) rfl

/-- Settles O15: the response is the status image, read field by field. -/
theorem getstatAnswersStatusImage : Obligations.GetstatAnswersStatusImage := by
  intro s
  obtain ⟨t, hexec, hack, hvalid, hdata, honly⟩ := exec_responds (i := .getstat) (s := s) rfl
  refine ⟨t, hexec, hack, hvalid, ?_⟩
  rw [hdata]
  exact ⟨statusImage_busy s, statusImage_valid s, statusImage_variant s, statusImage_phase s, statusImage_bitIdx s,
    statusImage_rest s, honly⟩

end CommandAnswers

section ReadAnswers

variable {s : State}

/-! The effect of a `READ` in each of its three cases (R171). -/

theorem readEffect_of_busy (hbusy : s.phase ≠ .idle) : readEffect s = acknowledge .refusedBusy := by
  obtain ⟨-, h⟩ | ⟨hidle, -⟩ | ⟨hidle, -⟩ := readEffect_cases s
  · exact h
  all_goals exact absurd hidle hbusy

theorem readEffect_of_insideWindow (hidle : s.phase = .idle) (hin : InsideWindow s) :
    readEffect s = ⟨.accepted, none, some s.lastResult, false⟩ := by
  obtain ⟨hbusy, -⟩ | ⟨-, -, h⟩ | ⟨-, hout, -⟩ := readEffect_cases s
  · exact absurd hidle hbusy
  · exact h
  · exact absurd hin hout

theorem readEffect_of_outsideWindow (hidle : s.phase = .idle) (hout : ¬ InsideWindow s) :
    readEffect s = ⟨.accepted, none, none, true⟩ := by
  obtain ⟨hbusy, -⟩ | ⟨-, hin, -⟩ | ⟨-, -, h⟩ := readEffect_cases s
  · exact absurd hidle hbusy
  · exact absurd hin hout
  · exact h

/-- Settles O17: the effect of a `READ` outside `IDLE` is an acknowledgment. -/
theorem readWhileBusyIsDropped : Obligations.ReadWhileBusyIsDropped :=
  fun _ hbusy => exec_acknowledges (i := .read) (readEffect_of_busy hbusy)

/-- In `IDLE` a tick whose command starts nothing leaves the registers and reports the command's own `done` (R133, R172). -/
theorem shows_tick_of_idle {e : CommandEffect} (hidle : s.phase = .idle) (hstarts : e.starts = false) :
    Shows ⟨s, e.done⟩ (tick s e) := by
  rw [tick_of_not_starts s e hstarts, sequencer_idle hidle]
  exact shows_finishTick ⟨s, e.done⟩ s e

/-- Settles O18: the tick shows the state at its start and the `done` of the command. -/
theorem rateLimitedReadAnswersFromCache : Obligations.RateLimitedReadAnswersFromCache := by
  intro s hidle hin
  have hread := readEffect_of_insideWindow hidle hin
  have hshows : Shows ⟨s, (readEffect s).done⟩ (tick s (readEffect s)) := shows_tick_of_idle hidle (by rw [hread])
  have hphase : (tick s (readEffect s)).phase = .idle := hshows.working.1.trans hidle
  have hdone : Done (tick s (readEffect s)) s.lastResult.code := done_of_shows hshows (by rw [hread])
  have hanswer : (tick s (readEffect s)).out.cmdAck = 1 ∧ (tick s (readEffect s)).out.rspValid = false ∧
      (tick s (readEffect s)).out.rspData = 0 := by
    rw [tick_out, hread]; exact ⟨rfl, rfl, rfl⟩
  obtain ⟨hack, hvalid, hdata⟩ := hanswer
  exact ⟨_, exec_eq_tick .read s, hack, hvalid, hdata, hdone, hshows.working, hshows.session, tickPassed_tick s _,
    by rw [tick_out, outputsOf_pinOe, hidle]; rfl, by rw [commandEffect, hphase]; rfl⟩

end ReadAnswers

section TicksWithDone

variable {s t : State}

/-- A waiting phase is at its budget with the level to exit on the line (R111). -/
def WaitTimesOut (s : State) : Prop :=
  ∃ level budget e, WaitRow s.phase level budget e ∧ s.pinSample = level ∧ s.tmr.toNat = budget

/-- The sequencer reports a `done` in `CHECK` and at the timeout of a waiting phase, and nowhere else (R182). -/
theorem sequencer_done_iff (s : State) : (sequencer s).done.isSome = true ↔ s.phase = .check ∨ WaitTimesOut s := by
  constructor
  · have houtcome := sequencer_outcome s
    generalize sequencer s = a at *
    intro hdone
    cases houtcome with
    | timedOut hrow hpin htmr => exact .inr ⟨_, _, _, hrow, hpin, htmr⟩
    | rejected hphase => exact .inl hphase
    | committed hphase => exact .inl hphase
    | goesOn => simp at hdone
  · rintro (hcheck | ⟨level, budget, e, hrow, hpin, htmr⟩)
    · rw [sequencer_check hcheck]
      obtain ⟨-, h⟩ | ⟨-, h⟩ := checkFrame_cases s <;> rw [h] <;> rfl
    · obtain ⟨next, hseq, -⟩ := sequencer_of_waitRow hrow
      rw [hseq s rfl, awaitLevel_of_budget hpin htmr]
      rfl

/-- A `READ` presented in a tick without reset is the command of that tick (R170). -/
theorem eq_tick_of_readPresented (h : Ticks s t) (hread : ReadPresented s.ports) : t = tick s (readEffect s) := by
  obtain ⟨hrst, hstep⟩ := h
  obtain ⟨hvalid, hop⟩ := hread
  have hexec := stepRunsTheDecodedCommand s .read hrst hvalid (hop ▸ decodeWord_encode .read) rfl
  exact Host.Outcome.next.inj (hstep.symm.trans hexec)

/-- In `IDLE` a `READ` reports a `done` in its own tick inside the window alone (R172). -/
theorem doneValid_of_read_in_idle (hidle : s.phase = .idle) :
    (tick s (readEffect s)).out.doneValid = true ↔ InsideWindow s := by
  rw [tick_out, outputsOf_doneValid, sequencer_done_of_idle hidle]
  by_cases hin : InsideWindow s
  · simp [readEffect_of_insideWindow hidle hin, hin]
  · simp [readEffect_of_outsideWindow hidle hin, hin]

/-- `IDLE` is none of the phases in which the sequencer reports a `done`. -/
theorem sequencer_silent_in_idle (hidle : s.phase = .idle) : ¬ (s.phase = .check ∨ WaitTimesOut s) := by
  rw [← sequencer_done_iff, sequencer_done_of_idle hidle]
  simp

/-- Settles O28: a `READ` presented in `IDLE` reports a `done` inside the window alone, and every other tick shows the sequencer's
action. -/
theorem doneComesExactlyAtAnEnd : Obligations.DoneComesExactlyAtAnEnd := by
  intro s t htick
  change _ ↔ _ ∨ s.phase = .check ∨ WaitTimesOut s
  by_cases hread : s.phase = .idle ∧ ReadPresented s.ports
  · obtain ⟨hidle, hpresented⟩ := hread
    rw [eq_tick_of_readPresented htick hpresented, doneValid_of_read_in_idle hidle]
    rw [or_iff_left (sequencer_silent_in_idle hidle)]
    simp [hidle, hpresented]
  · have hshows : Shows (sequencer s) t := by
      by_cases hidle : s.phase = .idle
      · exact shows_of_not_readPresented htick fun hpresented => hread ⟨hidle, hpresented⟩
      · exact shows_of_ticks htick hidle
    rw [hshows.doneValid, sequencer_done_iff]
    exact (or_iff_right fun ⟨hidle, hpresented, _⟩ => hread ⟨hidle, hpresented⟩).symm

end TicksWithDone

end Sys2Proof.Machine

/-! SUPPORT. Proofs of the host-side family: each scale as a whole number of tenths or hundredths (44_derived_values.md R190 to R192). -/

namespace Sys2Proof.Machine

section ExactScales

/-- R190: `GETTEMP` keeps the sign of the register, so ten times the Celsius value of its response is the register. -/
theorem ten_mul_celsius_signExtend (x : BitVec 16) : 10 * celsius (x.signExtend 64) = x.toInt := by
  rw [celsius, BitVec.toInt_signExtend_of_le (by decide)]
  exact mul_div_cancel₀ _ (by norm_num)

/-- R191 in hundredths of a degree, over the Celsius value in tenths. -/
theorem hundred_mul_toFahrenheit (c : Rat) : 100 * toFahrenheit c = 18 * (10 * c) + 3200 := by
  rw [toFahrenheit]
  ring

/-- R192 in hundredths of a kelvin, over the Celsius value in tenths. -/
theorem hundred_mul_toKelvin (c : Rat) : 100 * toKelvin c = 10 * (10 * c) + 27315 := by
  rw [toKelvin]
  ring

/-- R190: the low half-word of the response of `GETHUM` is the register, so ten times the humidity is the register. -/
theorem ten_mul_humidityPercent_setWidth (h : BitVec 16) : 10 * humidityPercent (h.setWidth 64) = h.toNat := by
  have hlow : (h.setWidth 64).extractLsb' 0 16 = h := by
    rw [← BitVec.setWidth_eq_extractLsb' (by decide), BitVec.setWidth_setWidth_of_le h (by decide), BitVec.setWidth_eq]
  rw [humidityPercent, hlow]
  exact mul_div_cancel₀ _ (by norm_num)

/-- Settles O55: every scale is linear in the Celsius value, whose tenths are the signed register. -/
theorem scaleConversionsAreExact : Obligations.ScaleConversionsAreExact := by
  intro x h
  have hcelsius := ten_mul_celsius_signExtend x
  refine ⟨hcelsius, ?fahrenheit, ?kelvin, ten_mul_humidityPercent_setWidth h⟩
  case fahrenheit => rw [temperatureIn, hundred_mul_toFahrenheit, hcelsius]
  case kelvin => rw [temperatureIn, hundred_mul_toKelvin, hcelsius]

end ExactScales

end Sys2Proof.Machine

/-! SUPPORT. Proofs of the exceptions family: the causes of a failed transaction with the effect of `raise E` (60_exceptions.md R201,
R204), and the quiet run of ticks from a `READ` to the failure of an absent sensor (R245). -/

namespace Sys2Proof.Machine

open Sys2Proof.Safety

section CausesOfFailure

variable {s t : State} {level : Level} {budget : Nat} {e : ResultCode}

/-- The rows of R201: the tick of `s` is one in which a transaction fails with `e`. -/
def FailsFrom (s : State) (e : ResultCode) : Prop :=
  (e = .notDetected ∧ s.phase = .waitResp ∧ s.pinSample = true ∧ s.tmr.toNat = 40) ∨
  (e = .syncTimeout ∧ s.phase = .waitAckLow ∧ s.pinSample = false ∧ s.tmr.toNat = 100) ∨
  (e = .tooFastReads ∧ s.phase = .waitAckHigh ∧ s.pinSample = true ∧ s.tmr.toNat = 100) ∨
  (e = .dataTimeout ∧ s.phase = .bitWaitLow ∧ s.pinSample = false ∧ s.tmr.toNat = 75) ∨
  (e = .dataTimeout ∧ s.phase = .bitWaitHigh ∧ s.pinSample = true ∧ s.tmr.toNat = 50) ∨
  (e = .badChecksum ∧ s.phase = .check ∧ ¬ ChecksumHolds (pack s.bits))

/-- The timeouts of the five waiting rows are five of the six causes. -/
theorem failsFrom_of_waitRow (hrow : WaitRow s.phase level budget e) (hpin : s.pinSample = level)
    (htmr : s.tmr.toNat = budget) : FailsFrom s e := by
  obtain ⟨hphase, rfl, rfl, rfl⟩ | ⟨hphase, rfl, rfl, rfl⟩ | ⟨hphase, rfl, rfl, rfl⟩ | ⟨hphase, rfl, rfl, rfl⟩ |
    ⟨hphase, rfl, rfl, rfl⟩ := hrow
  · exact .inl ⟨rfl, hphase, hpin, htmr⟩
  · exact .inr (.inl ⟨rfl, hphase, hpin, htmr⟩)
  · exact .inr (.inr (.inl ⟨rfl, hphase, hpin, htmr⟩))
  · exact .inr (.inr (.inr (.inl ⟨rfl, hphase, hpin, htmr⟩)))
  · exact .inr (.inr (.inr (.inr (.inl ⟨rfl, hphase, hpin, htmr⟩))))

/-- A checksum that fails is the sixth. -/
theorem failsFrom_of_rejected (hphase : s.phase = .check) (hframe : frameValid (pack s.bits) = false) :
    FailsFrom s .badChecksum := by
  have hsum : ¬ ChecksumHolds (pack s.bits) := fun h => by simp [(frameValid_iff_checksumHolds _).2 h] at hframe
  exact .inr (.inr (.inr (.inr (.inr ⟨rfl, hphase, hsum⟩))))

/-- Settles O29: of the sequencer's outcomes a commit reports code 0 and a tick that goes on reports nothing; the others are
`raise E`, each from its own cause. -/
theorem failuresHaveTheirCauseAndEffect : Obligations.FailuresHaveTheirCauseAndEffect := by
  intro s t htick hbusy hdone hcode
  have hpassed := everyTickCountsNow s t htick
  have hshows := shows_of_ticks htick hbusy
  have houtcome := sequencer_outcome s
  have hcache : SameCache s s := ⟨rfl, rfl, rfl, rfl, rfl⟩
  generalize sequencer s = a at hshows houtcome
  cases houtcome with
  | timedOut hrow hpin htmr =>
    exact ⟨_, failedWith_of_shows_raise hshows hcache, hpassed, failsFrom_of_waitRow hrow hpin htmr⟩
  | rejected hphase hframe =>
    exact ⟨_, failedWith_of_shows_raise hshows hcache, hpassed, failsFrom_of_rejected hphase hframe⟩
  | committed => exact absurd hshows.doneCode hcode
  | goesOn => exact absurd (hdone.symm.trans hshows.doneValid) Bool.false_ne_true.symm

end CausesOfFailure

section QuietRuns

/-- A run of `n` ticks leads from `s` to `t`, and none of them reports a `done`. -/
structure RunsQuietly (n : Nat) (s t : State) : Prop extends RunsTo n s t where
  noDone : ∀ m, m < n → ∃ u, run (m + 1) s = .next u ∧ NoDone u

/-- A quiet run of `n` ticks leads from `s` to the start of the phase `p` in `t`, the session registers as they were. -/
structure EntersQuietly (n : Nat) (p : Phase) (s t : State) : Prop extends RunsQuietly n s t where
  phase : t.phase = p
  tmr : t.tmr = 0
  session : SameSession s t

variable {s t u : State} {m n duration budget : Nat} {p q next : Phase} {level : Level} {e : ResultCode}

/-- Every step uses up one sample, reset or not (log 1). -/
theorem portsAt_of_step (h : step s = .next t) (k : Nat) : portsAt t k = portsAt s (k + 1) := by
  rw [portsAt_succ]
  obtain rfl | ⟨e, -, rfl⟩ := step_next_cases h
  · exact portsAt_congr (t := resetTick s) (s := s.nextPorts) rfl rfl k
  · obtain ⟨-, -, hinputs, hfree⟩ := tickPassed_tick s e
    exact portsAt_congr hinputs hfree k

theorem runsTo_of_step (h : step s = .next t) : RunsTo 1 s t :=
  ⟨run_succ 0 h, fun k => by rw [portsAt_of_step h, Nat.add_comm]⟩

/-- What a run leads to has the later samples on its ports. -/
theorem runsTo_of_run (h : run n s = .next t) : RunsTo n s t := by
  induction n generalizing s with
  | zero => cases h; exact runsTo_zero _
  | succ n ih =>
    obtain ⟨u, hstep⟩ := everyStepHasANextState s
    rw [Nat.add_comm]
    exact (runsTo_of_step hstep).trans (ih (run_succ n hstep ▸ h))

theorem RunsQuietly.trans (hst : RunsQuietly m s t) (htu : RunsQuietly n t u) : RunsQuietly (m + n) s u where
  toRunsTo := hst.toRunsTo.trans htu.toRunsTo
  noDone k hk := by
    by_cases hfirst : k < m
    · exact hst.noDone k hfirst
    · obtain ⟨j, rfl⟩ := Nat.exists_eq_add_of_le (Nat.le_of_not_lt hfirst)
      obtain ⟨v, hrun, hquiet⟩ := htu.noDone j (Nat.lt_of_add_lt_add_left hk)
      exact ⟨v, (run_add m (j + 1) hst.run_eq).trans hrun, hquiet⟩

theorem EntersQuietly.trans (hst : EntersQuietly m p s t) (htu : EntersQuietly n q t u) : EntersQuietly (m + n) q s u where
  toRunsQuietly := hst.toRunsQuietly.trans htu.toRunsQuietly
  phase := htu.phase
  tmr := htu.tmr
  session := sameSession_trans hst.session htu.session

/-- A run is quiet if at each of its offsets it has come to a state whose next tick reports nothing. -/
theorem runsQuietly_of_ticks (hrun : run n s = .next t) (hreset : NoReset s n)
    (hticks : ∀ k, k < n → ∃ u, run k s = .next u ∧ ∀ v, Ticks u v → NoDone v) : RunsQuietly n s t where
  toRunsTo := runsTo_of_run hrun
  noDone k hk := by
    obtain ⟨u, hrun_u, hquiet⟩ := hticks k hk
    obtain ⟨v, htick, -⟩ := ticks_of_noReset_succ ((runsTo_of_run hrun_u).noReset (n := 0 + 1) (noReset_of_le hreset hk))
    exact ⟨v, (run_add k 1 hrun_u).trans (run_succ 0 htick.2), hquiet v htick⟩

/-- The durations of a legal configuration are positive and fit `TMR` (R11). -/
theorem timedRow_duration_bounds {c : Params} (hc : c.wellFormed = true) (hrow : TimedRow c p duration next) :
    1 ≤ duration ∧ duration < 2 ^ 32 := by
  have hlt := phaseTicks_lt hc p
  simp only [Params.wellFormed, Config.legalTicks, Bool.and_eq_true, decide_eq_true_eq] at hc
  obtain ⟨⟨⟨⟨hsettle, -⟩, ⟨hv11, -⟩⟩, ⟨hv22, -⟩⟩, -⟩ := hc
  obtain ⟨rfl, rfl, -⟩ | ⟨rfl, rfl, -⟩ | ⟨rfl, rfl, -⟩ := hrow
  · exact ⟨hsettle, hlt⟩
  · exact ⟨by split <;> omega, hlt⟩
  · exact ⟨by decide, hlt⟩

/-- A timed phase leads quietly to the next one in exactly its duration (R118). -/
theorem entersQuietly_of_timedRow (hcfg : s.cfg.wellFormed = true) (hrow : TimedRow s.cfg s.phase duration next)
    (htmr : s.tmr = 0) (hreset : NoReset s duration) : ∃ t, EntersQuietly duration next s t := by
  obtain ⟨hpos, hlt⟩ := timedRow_duration_bounds hcfg hrow
  obtain ⟨hcount, t, hrun, hphase, htmr_t, -, -, hsession⟩ :=
    delayHoldsExactlyItsDuration s duration next hrow htmr hpos hlt hreset
  refine ⟨t, runsQuietly_of_ticks hrun hreset fun k hk => ?_, hphase, htmr_t, hsession⟩
  obtain ⟨u, hrun_u, hphase_u, -⟩ := hcount k hk
  refine ⟨u, hrun_u, fun v htick => ?_⟩
  have hrow_u : TimedRow u.cfg u.phase duration next := by rwa [run_cfg hrun_u, hphase_u]
  obtain ⟨-, -, -, -, -, hquiet⟩ := timedPhasesCountOrMoveOn u v duration next htick hrow_u
  exact hquiet

/-- The tick of a `READ` in `IDLE` outside the window leads quietly to the start pulse (R121). -/
theorem entersQuietly_of_read (hidle : s.phase = .idle) (hread : ReadPresented s.ports) (hout : ¬ InsideWindow s)
    (hreset : NoReset s 1) : ∃ t, EntersQuietly 1 .startSettle s t := by
  obtain ⟨t, hexec, -, -, -, hquiet, hphase, htmr, -, -, hsession, -⟩ := readStartsATransaction s hidle hout
  obtain ⟨u, htick, -⟩ := ticks_of_noReset_succ (n := 0) hreset
  obtain rfl : u = t := by
    rw [eq_tick_of_readPresented htick hread]
    exact Host.Outcome.next.inj hexec
  have hrun := runsTo_of_step htick.2
  exact ⟨u, ⟨hrun, fun m hm => ⟨u, by rw [Nat.lt_one_iff.1 hm]; exact hrun.run_eq, hquiet⟩⟩, hphase, htmr, hsession⟩

/-- The start pulse leads quietly through its three phases to the wait for the sensor (R122 to R124). -/
theorem entersQuietly_waitResp (hcfg : s.cfg.wellFormed = true) (hphase : s.phase = .startSettle) (htmr : s.tmr = 0)
    (hreset : NoReset s (s.cfg.tSettle + startLowTicks s.cfg + 30)) :
    ∃ t, EntersQuietly (s.cfg.tSettle + startLowTicks s.cfg + 30) .waitResp s t := by
  obtain ⟨a, ha⟩ := entersQuietly_of_timedRow hcfg (.inl ⟨hphase, rfl, rfl⟩) htmr (noReset_of_le hreset (by omega))
  have hcfg_a : a.cfg = s.cfg := run_cfg ha.run_eq
  obtain ⟨b, hb⟩ := entersQuietly_of_timedRow (duration := startLowTicks s.cfg) (hcfg_a ▸ hcfg)
    (.inr (.inl ⟨ha.phase, by rw [hcfg_a]; rfl, rfl⟩)) ha.tmr (ha.noReset (noReset_of_le hreset (by omega)))
  have hab := ha.trans hb
  have hcfg_b : b.cfg = s.cfg := run_cfg hab.run_eq
  obtain ⟨t, ht⟩ := entersQuietly_of_timedRow (hcfg_b ▸ hcfg) (.inr (.inr ⟨hb.phase, rfl, rfl⟩)) hb.tmr (hab.noReset hreset)
  exact ⟨t, hab.trans ht⟩

/-- A waiting phase counts quietly up to its budget (R112). -/
theorem runsQuietly_of_waitRow (hrow : WaitRow s.phase level budget e) (htmr : s.tmr = 0) (hreset : NoReset s (budget + 1))
    (hpin : ∀ k, k ≤ budget → (portsAt s k).pinI = level) : ∃ t, RunsQuietly budget s t := by
  obtain ⟨hcount, -⟩ := waitTimesOutAtItsBudget s level budget e hrow htmr hreset hpin
  obtain ⟨t, hrun, -⟩ := hcount budget le_rfl
  refine ⟨t, runsQuietly_of_ticks hrun (noReset_of_le hreset budget.le_succ) fun k hk => ?_⟩
  obtain ⟨u, hrun_u, hphase_u, htmr_u, -⟩ := hcount k hk.le
  refine ⟨u, hrun_u, fun v htick => ?_⟩
  have hpin_u : u.pinSample = level := (runsTo_of_run hrun_u).pinSample.trans (hpin k hk.le)
  obtain ⟨-, -, -, hgoes⟩ := waitingPhasesFollowAwaitLevel u v level budget e htick (hphase_u ▸ hrow)
  obtain ⟨-, -, -, -, -, hquiet⟩ := hgoes hpin_u (by omega)
  exact hquiet

/-- Settles O52: the tick of the `READ`, the start pulse and the wait up to its budget are quiet, and the wait times out in the
tick after them. -/
theorem absentSensorIsReportedOnTime : Obligations.AbsentSensorIsReportedOnTime := by
  intro s hcfg hidle hread hout hreset hpin
  obtain ⟨a, ha⟩ := entersQuietly_of_read hidle hread hout (noReset_of_le hreset (by omega))
  have hcfg_a : a.cfg = s.cfg := run_cfg ha.run_eq
  obtain ⟨w, hw⟩ := entersQuietly_waitResp (hcfg_a ▸ hcfg) ha.phase ha.tmr
    (ha.noReset (noReset_of_le hreset (by rw [hcfg_a]; omega)))
  rw [hcfg_a] at hw
  have hsw := ha.trans hw
  have hrow : WaitRow w.phase true 40 .notDetected := .inl ⟨hw.phase, rfl, rfl, rfl⟩
  have hreset_w : NoReset w (40 + 1) := hsw.noReset (noReset_of_le hreset (by omega))
  have hhigh (k : Nat) (hk : k ≤ 40) : (portsAt w k).pinI = true := by
    rw [hsw.ports_eq]
    exact hpin _ (by omega) (by omega)
  obtain ⟨b, hb⟩ := runsQuietly_of_waitRow hrow hw.tmr hreset_w hhigh
  obtain ⟨-, t, hrun, hfailed⟩ := waitTimesOutAtItsBudget w true 40 .notDetected hrow hw.tmr hreset_w hhigh
  have hquiet := hsw.toRunsQuietly.trans hb
  have hend := (hsw.toRunsTo.trans (runsTo_of_run hrun)).run_eq
  refine ⟨fun m hm => hquiet.noDone m (by omega), t, ?_, failedWith_of_sameCache hsw.session.2 hfailed⟩
  have hlast : s.cfg.tSettle + startLowTicks s.cfg + 71 + 1 = 1 + (s.cfg.tSettle + startLowTicks s.cfg + 30) + (40 + 1) := by
    omega
  exact hlast ▸ hend

end QuietRuns

end Sys2Proof.Machine

/-! SUPPORT. Proofs of the reset family: what a tick with `rst` = 1 leaves in the registers and on the output ports, and the released
pin of the tick after it (70_reset_and_hazards.md R230). -/

namespace Sys2Proof.Machine

open Sys2Proof.Safety

section ResetTick

variable {s t : State}

/-- `rst` comes before the command and the sequencer (R207 d, R230). -/
theorem step_of_rst (h : s.ports.rst = true) : step s = .next (resetTick s) := if_pos h

/-- All eleven registers of R20 are those of the reset state, whatever they were (R230). -/
theorem sameRegisters_resetTick (s : State) : SameRegisters State.reset (resetTick s) :=
  ⟨⟨rfl, rfl, rfl, rfl⟩, ⟨rfl, rfl, rfl, rfl, rfl, rfl⟩, rfl⟩

/-- The model's own fields that a reset keeps: the configuration and the later samples (R12; log 1, log 3). -/
theorem resetTick_kept (s : State) : (resetTick s).cfg = s.cfg ∧ (resetTick s).inputs = s.nextPorts.inputs := ⟨rfl, rfl⟩

theorem resetTick_out (s : State) : (resetTick s).out = outputsOf s noCommand none := rfl

/-- Without a command there is no acknowledgment and no response (R170). -/
theorem outputsOf_noCommand_answers (s : State) (d : Option ResultCode) :
    (outputsOf s noCommand d).cmdAck = 0 ∧ (outputsOf s noCommand d).rspValid = false ∧
      (outputsOf s noCommand d).rspData = 0 := ⟨rfl, rfl, rfl⟩

theorem noDone_resetTick (s : State) : NoDone (resetTick s) := by simp [NoDone, resetTick_out]

/-- A step from `IDLE`, of any kind, does not drive the line (R33). -/
theorem pinOe_of_step_of_idle (hidle : s.phase = .idle) (h : step s = .next t) : t.out.pinOe = false := by
  obtain ⟨e, d, hout⟩ := step_out h
  rw [hout, outputsOf_pinOe, hidle]
  rfl

/-- Settles O35: the step is a reset tick, its registers are those of the reset state, and the tick after it starts in `IDLE`. -/
theorem resetTickClearsEverything : Obligations.ResetTickClearsEverything := by
  intro s hrst
  obtain ⟨hworking, ⟨hresult, hframe, hhum, htemp, htime, hvalid⟩, hnow⟩ := sameRegisters_resetTick s
  obtain ⟨hcfg, hinputs⟩ := resetTick_kept s
  obtain ⟨hack, hrsp, hdata⟩ := resetTick_out s ▸ outputsOf_noCommand_answers s none
  have hidle : (resetTick s).phase = .idle := hworking.1
  exact ⟨resetTick s, step_of_rst hrst, hworking, hresult, hframe, hhum, htemp, htime, hvalid, hnow, hcfg, hack, hrsp, hdata,
    noDone_resetTick s, hinputs, fun _ => pinOe_of_step_of_idle hidle⟩

end ResetTick

end Sys2Proof.Machine
